-- ==== Sys2Proof/Word.lean ====
section
/-! DEFINITION. The words of the MFUL codec: bytes, 16-bit values and four-byte groups (00_scope.md R12, R13). -/

namespace Sys2Proof

/-- A byte: 8 bits, numbered 7 to 0, unsigned (00_scope.md R12). -/
abbrev Byte := BitVec 8

/-- A 16-bit value: the CRC register and the FAST_READ capacity (00_scope.md R12, 30_encoding.md R83). -/
abbrev Word16 := BitVec 16

/-- Four bytes in descriptor order: an id, the data of one page, a password (30_encoding.md R81, formats H_4, H_P4, H_PW). -/
structure Quad where
  b0 : Byte
  b1 : Byte
  b2 : Byte
  b3 : Byte
  deriving DecidableEq, Repr

end Sys2Proof
end

