-- ==== Sys2Proof/Syntax.lean ====
section
/-! DEFINITION. The 41 host commands: their operation selectors, their descriptor formats and their operands
(30_encoding.md R80 to R83; one constructor of Instr per row of opcode_table.json). -/

namespace Sys2Proof

/-- The named operation selectors, one per row of the OPSEL map (30_encoding.md R82). -/
inductive Opsel where
  | init | deinit | info | setStorage | getStorage
  | crc16 | crcCheck
  | request | wakeUp | halt | anticollCl1 | selectCl1 | anticollCl2 | selectCl2
  | getVersion | readPage | readFourPages | fastRead | writePage | compWrite
  | readSerial | otpRead | otpWrite | readSignature
  | readCounter | incrementCounter | checkTearing | authenticate | setPasswordPack
  | setLock | getLock | setModulation | getModulation | setProtectStart | getProtectStart
  | setAccess | getAccess | setAuthLimit | getAuthLimit | setVctid | getVctid
  deriving DecidableEq, Repr

/-- The ten descriptor formats (30_encoding.md R81). -/
inductive Format where
  | hNone | hB | hBB | h4 | hP4 | hFR | hCNT | hPW | hLK | hCRC
  deriving DecidableEq, Repr

/-- A host command with its operands, one constructor per row of opcode_table.json (30_encoding.md R81, R82). -/
inductive Instr where
  /-- INIT (42_session.md R180) -/
  | init
  /-- DEINIT (42_session.md R181) -/
  | deinit
  /-- INFO (42_session.md R182) -/
  | info
  /-- SET_STORAGE e (42_session.md R183) -/
  | setStorage (e : Byte)
  /-- GET_STORAGE (42_session.md R184) -/
  | getStorage
  /-- CRC16 s, its length n the length of the list (40_crc.md R126) -/
  | crc16 (data : List Byte)
  /-- CRC_CHECK s, its length n the length of the list (40_crc.md R127) -/
  | crcCheck (data : List Byte)
  /-- REQUEST (43_selection.md R200) -/
  | request
  /-- WAKE_UP (43_selection.md R201) -/
  | wakeUp
  /-- HALT (43_selection.md R202) -/
  | halt
  /-- ANTICOLL_CL1 (43_selection.md R203) -/
  | anticollCl1
  /-- SELECT_CL1 id (43_selection.md R204) -/
  | selectCl1 (id : Quad)
  /-- ANTICOLL_CL2 (43_selection.md R205) -/
  | anticollCl2
  /-- SELECT_CL2 id (43_selection.md R206) -/
  | selectCl2 (id : Quad)
  /-- GET_VERSION (44_memory_ops.md R230) -/
  | getVersion
  /-- READ_PAGE p (44_memory_ops.md R231) -/
  | readPage (p : Byte)
  /-- READ_FOUR_PAGES p (44_memory_ops.md R232) -/
  | readFourPages (p : Byte)
  /-- FAST_READ start, stop, cap (44_memory_ops.md R233) -/
  | fastRead (start stop : Byte) (cap : Word16)
  /-- WRITE_PAGE p, d (44_memory_ops.md R234) -/
  | writePage (p : Byte) (d : Quad)
  /-- COMP_WRITE p, d (44_memory_ops.md R235) -/
  | compWrite (p : Byte) (d : Quad)
  /-- READ_SERIAL (44_memory_ops.md R236) -/
  | readSerial
  /-- OTP_READ (44_memory_ops.md R237) -/
  | otpRead
  /-- OTP_WRITE d (44_memory_ops.md R238) -/
  | otpWrite (d : Quad)
  /-- READ_SIGNATURE (44_memory_ops.md R239) -/
  | readSignature
  /-- READ_COUNTER a (45_counter_auth.md R270) -/
  | readCounter (a : Byte)
  /-- INCREMENT_COUNTER a, v (45_counter_auth.md R271) -/
  | incrementCounter (a : Byte) (v : BitVec 32)
  /-- CHECK_TEARING a (45_counter_auth.md R272) -/
  | checkTearing (a : Byte)
  /-- AUTHENTICATE pwd, pack (45_counter_auth.md R273) -/
  | authenticate (pwd : Quad) (k0 k1 : Byte)
  /-- SET_PASSWORD_PACK pwd, pack (45_counter_auth.md R274) -/
  | setPasswordPack (pwd : Quad) (k0 k1 : Byte)
  /-- SET_LOCK l0..l4 (46_config.md R302) -/
  | setLock (l0 l1 l2 l3 l4 : Byte)
  /-- GET_LOCK (46_config.md R303) -/
  | getLock
  /-- SET_MODULATION m (46_config.md R304) -/
  | setModulation (m : Byte)
  /-- GET_MODULATION (46_config.md R305) -/
  | getModulation
  /-- SET_PROTECT_START p (46_config.md R306) -/
  | setProtectStart (p : Byte)
  /-- GET_PROTECT_START (46_config.md R307) -/
  | getProtectStart
  /-- SET_ACCESS which, enable (46_config.md R308) -/
  | setAccess (which enable : Byte)
  /-- GET_ACCESS which (46_config.md R309) -/
  | getAccess (which : Byte)
  /-- SET_AUTH_LIMIT l (46_config.md R310) -/
  | setAuthLimit (l : Byte)
  /-- GET_AUTH_LIMIT (46_config.md R311) -/
  | getAuthLimit
  /-- SET_VCTID v (46_config.md R312) -/
  | setVctid (v : Byte)
  /-- GET_VCTID (46_config.md R313) -/
  | getVctid
  deriving DecidableEq, Repr

/-- The operation selector of a command (30_encoding.md R82). -/
def Instr.opsel : Instr → Opsel
  | .init => .init
  | .deinit => .deinit
  | .info => .info
  | .setStorage _ => .setStorage
  | .getStorage => .getStorage
  | .crc16 _ => .crc16
  | .crcCheck _ => .crcCheck
  | .request => .request
  | .wakeUp => .wakeUp
  | .halt => .halt
  | .anticollCl1 => .anticollCl1
  | .selectCl1 _ => .selectCl1
  | .anticollCl2 => .anticollCl2
  | .selectCl2 _ => .selectCl2
  | .getVersion => .getVersion
  | .readPage _ => .readPage
  | .readFourPages _ => .readFourPages
  | .fastRead _ _ _ => .fastRead
  | .writePage _ _ => .writePage
  | .compWrite _ _ => .compWrite
  | .readSerial => .readSerial
  | .otpRead => .otpRead
  | .otpWrite _ => .otpWrite
  | .readSignature => .readSignature
  | .readCounter _ => .readCounter
  | .incrementCounter _ _ => .incrementCounter
  | .checkTearing _ => .checkTearing
  | .authenticate _ _ _ => .authenticate
  | .setPasswordPack _ _ _ => .setPasswordPack
  | .setLock _ _ _ _ _ => .setLock
  | .getLock => .getLock
  | .setModulation _ => .setModulation
  | .getModulation => .getModulation
  | .setProtectStart _ => .setProtectStart
  | .getProtectStart => .getProtectStart
  | .setAccess _ _ => .setAccess
  | .getAccess _ => .getAccess
  | .setAuthLimit _ => .setAuthLimit
  | .getAuthLimit => .getAuthLimit
  | .setVctid _ => .setVctid
  | .getVctid => .getVctid

end Sys2Proof
end

