-- ==== Sys2Proof/Config.lean ====
section
/-! DEFINITION. What is fixed for an instance of the block (10_state.md R45): the shapes of its parameters, the outcome
names, what the external devices may answer, and the open values as opaque constants. The defaults of the parameters
are data in Machine/Params.lean. -/

namespace Sys2Proof

/-- The outcomes of a host command (60_exceptions.md R340). -/
inductive CmdOutcome where
  | ok | illegalCommand | nullHandle | notInitialized
  | missingDebugSink | missingInit | missingDeinit | missingTransceiver | missingDelay
  | invalidAddress | invalidRange | rangeTooLarge | bufferTooSmall | invalidParameter | sequenceError
  | operationFailed | transportFailed
  | invalidResponseLength | checksumError | sakError | typeInvalid | ackError | packMismatch
  deriving DecidableEq, Repr

/-- The wire opcode table WIRE_OP (00_scope.md R10). -/
structure WireOp where
  reqa : Byte
  wupa : Byte
  hlta0 : Byte
  hlta1 : Byte
  anticollCl1First : Byte
  anticollCl1Second : Byte
  anticollCl2First : Byte
  anticollCl2Second : Byte
  selectCl1First : Byte
  selectCl1Second : Byte
  selectCl2First : Byte
  selectCl2Second : Byte
  getVersion : Byte
  read : Byte
  fastRead : Byte
  write : Byte
  compWrite : Byte
  readCnt : Byte
  incrCnt : Byte
  checkTearing : Byte
  readSig : Byte
  readSigAddr : Byte
  pwdAuth : Byte
  deriving DecidableEq, Repr

/-- The configuration fields (46_config.md R300). -/
inductive Field where
  | mod | auth0 | prot | cfglck | authlim | vctid
  deriving DecidableEq, Repr

/-- Where a configuration field lies: page END_PAGE - offset, byte of that page, low bit, width in bits (46_config.md R300). -/
structure CfgField where
  offset : Byte
  byteIx : Fin 4
  lo : Nat
  width : Nat
  deriving DecidableEq, Repr

/-- The parameter CFG_FIELD, one entry per field (46_config.md R300). -/
structure CfgFields where
  mod : CfgField
  auth0 : CfgField
  prot : CfgField
  cfglck : CfgField
  authlim : CfgField
  vctid : CfgField
  deriving DecidableEq, Repr

/-- One entry of the parameter STATUS_CODE that differs from the default table of 60_exceptions.md R342. The command is
none for a descriptor whose OPSEL is reserved. -/
structure StatusOverride where
  command : Option Opsel
  outcome : CmdOutcome
  code : Byte
  deriving DecidableEq, Repr

/-- The parameters of an instance (00_scope.md R10, R11). STATUS_CODE is the default table with a list of overrides
(log entry 5). RX_LEN_MAX is a byte because RX_LEN has 8 bits (10_state.md R38). -/
structure Params where
  wireOp : WireOp
  wupaDelayMs : Nat
  haltAppendCrc : Bool
  enforceCascadeOrder : Bool
  lockLowPage : Byte
  otpPage : Byte
  serialPage : Byte
  cfgFields : CfgFields
  statusOverrides : List StatusOverride
  infoRecord : List Byte
  rxLenMax : Byte
  deriving DecidableEq, Repr

/-- What the transceiver answers to one Exchange (00_scope.md R16): a transport status and the received bytes, or no
answer at all (60_exceptions.md R352). -/
inductive Answer where
  | returns (status : Nat) (bytes : List Byte)
  | neverReturns
  deriving DecidableEq, Repr, Inhabited

/-- The external events of the block, as the observation of 70_reset_and_hazards.md R396 lists them. -/
inductive Event where
  | exchange (tx : List Byte) (cap : Nat)
  | rfInit
  | rfDeinit
  | delayMs (n : Nat)
  deriving DecidableEq, Repr

/-- FREE VALUE: the transceiver's answer where State lists none, one for each value of the counter (93_implementation_defined.md
I10, I9; log entry 2). -/
opaque Config.freeAnswer : Nat → Answer

/-- FREE VALUE: the RF front end's status where State lists none (00_scope.md R16; log entry 2). -/
opaque Config.freeRfStatus : Nat → Nat

/-- OPEN parameter WUPA_DELAY_MS of the reset configuration (00_scope.md R11, D9; log entry 4). -/
opaque Config.wupaDelayMs : Nat

/-- OPEN parameter INFO_RECORD of the reset configuration (00_scope.md R11, D28; log entries 4 and 12). -/
opaque Config.infoRecord : List Byte

end Sys2Proof
end

