-- ==== Sys2Proof/Machine/Operands.lean ====
section
/-! DEFINITION. Operand forms and byte helpers: byte order, four-byte groups, fixed-size buffers, page arithmetic and
bit fields of a configuration byte. -/

namespace Sys2Proof.Machine

/-- lo(w): bits 7:0 (00_scope.md R12). -/
def loByte (w : Word16) : Byte := w.setWidth 8

/-- hi(w): bits 15:8 (00_scope.md R12). -/
def hiByte (w : Word16) : Byte := (w >>> 8).setWidth 8

/-- LE16(w): low byte first (00_scope.md R13, 20_memory.md R63). -/
def le16 (w : Word16) : List Byte := [loByte w, hiByte w]

/-- LE24(v): the three low bytes of a 32-bit value, low byte first (00_scope.md R13, 20_memory.md R64). Bits 31:24 are
dropped (45_counter_auth.md R271). -/
def le24 (v : BitVec 32) : List Byte := [v.setWidth 8, (v >>> 8).setWidth 8, (v >>> 16).setWidth 8]

/-- The four bytes of a 32-bit operand, low byte first (30_encoding.md R83). -/
def le32 (v : BitVec 32) : List Byte :=
  [v.setWidth 8, (v >>> 8).setWidth 8, (v >>> 16).setWidth 8, (v >>> 24).setWidth 8]

/-- C[3] | C[4] << 8 (30_encoding.md R83). -/
def word16OfLe (c0 c1 : Byte) : Word16 := c0.setWidth 16 ||| (c1.setWidth 16 <<< 8)

/-- C[2] | C[3] << 8 | C[4] << 16 | C[5] << 24 (30_encoding.md R83). -/
def word32OfLe (c0 c1 c2 c3 : Byte) : BitVec 32 :=
  c0.setWidth 32 ||| (c1.setWidth 32 <<< 8) ||| (c2.setWidth 32 <<< 16) ||| (c3.setWidth 32 <<< 24)

/-- The bytes of a four-byte operand, in descriptor order (30_encoding.md R83). -/
def quadBytes (q : Quad) : List Byte := [q.b0, q.b1, q.b2, q.b3]

/-- zeros(n) (00_scope.md R13). -/
def zeros (n : Nat) : List Byte := List.replicate n 0x00#8

/-- A buffer of n bytes after `bytes` are written from its first byte on; the bytes past them keep their values, and
what does not fit is lost (log entries 8 and 9). -/
def fillBuffer {n : Nat} (buf : Vector Byte n) (bytes : List Byte) : Vector Byte n :=
  ⟨(bytes.take n ++ buf.toList.drop bytes.length).toArray, by
    simp only [List.size_toArray, List.length_append, List.length_take, List.length_drop, Vector.length_toList]
    omega⟩

/-- BCC(i0, i1, i2, i3), the exclusive-or of the four id bytes (41_frame_codec.md R141). -/
def bcc (id : Quad) : Byte := id.b0 ^^^ id.b1 ^^^ id.b2 ^^^ id.b3

/-- trunc_8(END_PAGE - k): 8-bit arithmetic that wraps (20_memory.md R67, R70). -/
def pageAt (endPage k : Byte) : Byte := endPage - k

/-- The mask of a field within its byte: trunc_8(((1 << w) - 1) << lo) (46_config.md R301). -/
def fieldMask (f : CfgField) : Byte := BitVec.ofNat 8 ((2 ^ f.width - 1) * 2 ^ f.lo)

/-- A configuration byte with the field set to v and every bit outside the mask kept (46_config.md R301, CfgSet). -/
def insertField (f : CfgField) (v old : Byte) : Byte :=
  (old &&& ~~~ fieldMask f) ||| ((v <<< f.lo) &&& fieldMask f)

/-- The value of a field of a configuration byte (46_config.md R301, CfgGet). -/
def extractField (f : CfgField) (x : Byte) : Byte := (x >>> f.lo) &&& BitVec.ofNat 8 (2 ^ f.width - 1)

/-- The page bytes d with the field's byte rewritten (46_config.md R301, CfgSet). -/
def setFieldByte (f : CfgField) (v : Byte) (d : List Byte) : List Byte :=
  d.set f.byteIx (insertField f v (d.getD f.byteIx 0x00#8))

/-- The field's value in the page bytes d (46_config.md R301, CfgGet). -/
def fieldOfPage (f : CfgField) (d : List Byte) : Byte := extractField f (d.getD f.byteIx 0x00#8)

/-- The access bit a selector names: 0 is PROT, 1 is CFGLCK, anything else is no access bit (46_config.md R308, R309). -/
def accessField (which : Byte) : Option Field :=
  if which = 0x00#8 then some .prot else if which = 0x01#8 then some .cfglck else none

end Sys2Proof.Machine
end

