-- ==== Sys2Proof/WellFormed.lean ====
section
/-! DEFINITION. Which terms of Instr are host commands (30_encoding.md R81: the byte count of H_CRC is one byte). -/

namespace Sys2Proof

/-- A command is well formed when its operands fit their format. Only H_CRC bounds an operand: 0 <= n <= 255
(30_encoding.md R81). Operand VALUES are not checked here (R86). -/
def Instr.wf : Instr → Bool
  | .crc16 data => decide (data.length ≤ 255)
  | .crcCheck data => decide (data.length ≤ 255)
  | .init | .deinit | .info | .setStorage _ | .getStorage => true
  | .request | .wakeUp | .halt | .anticollCl1 | .selectCl1 _ | .anticollCl2 | .selectCl2 _ => true
  | .getVersion | .readPage _ | .readFourPages _ | .fastRead _ _ _ | .writePage _ _ | .compWrite _ _ => true
  | .readSerial | .otpRead | .otpWrite _ | .readSignature => true
  | .readCounter _ | .incrementCounter _ _ | .checkTearing _ | .authenticate _ _ _ | .setPasswordPack _ _ _ => true
  | .setLock _ _ _ _ _ | .getLock | .setModulation _ | .getModulation | .setProtectStart _ | .getProtectStart => true
  | .setAccess _ _ | .getAccess _ | .setAuthLimit _ | .getAuthLimit | .setVctid _ | .getVctid => true

end Sys2Proof
end

