-- ==== Sys2Proof/Decode.lean ====
section
/-! DEFINITION. Host command descriptors (30_encoding.md R80 to R86): the OPSEL map, the formats, the decoder (total on any
bytes, rejecting by name), the encoder, and the reading of a table word. -/

namespace Sys2Proof

open Sys2Proof.Machine (le16 le32 word16OfLe word32OfLe quadBytes)

/-- Why a byte sequence is no legal descriptor (30_encoding.md R85). -/
inductive DecodeError where
  /-- no byte at all: there is no OPSEL (a descriptor has 1 to 257 bytes, R80; log entry 11) -/
  | noBytes
  /-- the OPSEL selects no command -/
  | reservedOpsel (b : Byte)
  /-- the length differs from the length of the command's format -/
  | wrongLength (o : Opsel) (len : Nat)
  deriving DecidableEq, Repr

/-- The OPSEL value of each command (30_encoding.md R82). -/
def opselCode : Opsel → Byte
  | .init => 0x00#8
  | .deinit => 0x01#8
  | .info => 0x02#8
  | .setStorage => 0x03#8
  | .getStorage => 0x04#8
  | .crc16 => 0x08#8
  | .crcCheck => 0x09#8
  | .request => 0x10#8
  | .wakeUp => 0x11#8
  | .halt => 0x12#8
  | .anticollCl1 => 0x13#8
  | .selectCl1 => 0x14#8
  | .anticollCl2 => 0x15#8
  | .selectCl2 => 0x16#8
  | .getVersion => 0x20#8
  | .readPage => 0x21#8
  | .readFourPages => 0x22#8
  | .fastRead => 0x23#8
  | .writePage => 0x24#8
  | .compWrite => 0x25#8
  | .readSerial => 0x26#8
  | .otpRead => 0x27#8
  | .otpWrite => 0x28#8
  | .readSignature => 0x29#8
  | .readCounter => 0x30#8
  | .incrementCounter => 0x31#8
  | .checkTearing => 0x32#8
  | .authenticate => 0x33#8
  | .setPasswordPack => 0x34#8
  | .setLock => 0x40#8
  | .getLock => 0x41#8
  | .setModulation => 0x42#8
  | .getModulation => 0x43#8
  | .setProtectStart => 0x44#8
  | .getProtectStart => 0x45#8
  | .setAccess => 0x46#8
  | .getAccess => 0x47#8
  | .setAuthLimit => 0x48#8
  | .getAuthLimit => 0x49#8
  | .setVctid => 0x4A#8
  | .getVctid => 0x4B#8

/-- Every operation selector, in the order of the OPSEL map (30_encoding.md R82). -/
def allOpsels : List Opsel :=
  List.flatten [
    [.init, .deinit, .info, .setStorage, .getStorage, .crc16, .crcCheck],
    [.request, .wakeUp, .halt, .anticollCl1, .selectCl1, .anticollCl2, .selectCl2],
    [.getVersion, .readPage, .readFourPages, .fastRead, .writePage, .compWrite],
    [.readSerial, .otpRead, .otpWrite, .readSignature],
    [.readCounter, .incrementCounter, .checkTearing, .authenticate, .setPasswordPack],
    [.setLock, .getLock, .setModulation, .getModulation, .setProtectStart, .getProtectStart],
    [.setAccess, .getAccess, .setAuthLimit, .getAuthLimit, .setVctid, .getVctid]]

/-- The command a byte selects, none where the value is reserved (30_encoding.md R82, R85). -/
def opselOf (b : Byte) : Option Opsel := allOpsels.find? fun o => opselCode o == b

/-- The format of each command's descriptor (30_encoding.md R81, R82). -/
def formatOf : Opsel → Format
  | .init => .hNone
  | .deinit => .hNone
  | .info => .hNone
  | .setStorage => .hB
  | .getStorage => .hNone
  | .crc16 => .hCRC
  | .crcCheck => .hCRC
  | .request => .hNone
  | .wakeUp => .hNone
  | .halt => .hNone
  | .anticollCl1 => .hNone
  | .selectCl1 => .h4
  | .anticollCl2 => .hNone
  | .selectCl2 => .h4
  | .getVersion => .hNone
  | .readPage => .hB
  | .readFourPages => .hB
  | .fastRead => .hFR
  | .writePage => .hP4
  | .compWrite => .hP4
  | .readSerial => .hNone
  | .otpRead => .hNone
  | .otpWrite => .h4
  | .readSignature => .hNone
  | .readCounter => .hB
  | .incrementCounter => .hCNT
  | .checkTearing => .hB
  | .authenticate => .hPW
  | .setPasswordPack => .hPW
  | .setLock => .hLK
  | .getLock => .hNone
  | .setModulation => .hB
  | .getModulation => .hNone
  | .setProtectStart => .hB
  | .getProtectStart => .hNone
  | .setAccess => .hBB
  | .getAccess => .hB
  | .setAuthLimit => .hB
  | .getAuthLimit => .hNone
  | .setVctid => .hB
  | .getVctid => .hNone

/-- The length of a descriptor of the format, its OPSEL included; c1 is C[1], read by H_CRC alone (30_encoding.md R81, R84). -/
def formatLength (c1 : Byte) : Format → Nat
  | .hNone => 1
  | .hB => 2
  | .hBB => 3
  | .h4 => 5
  | .hP4 => 6
  | .hFR => 5
  | .hCNT => 6
  | .hPW => 7
  | .hLK => 6
  | .hCRC => 2 + c1.toNat

/-- H_NONE: no operand (30_encoding.md R81). -/
def operandsNone (i : Instr) : List Byte → Option Instr
  | [] => some i
  | _ :: _ => none

/-- H_B: one byte (30_encoding.md R81). -/
def operandsB (mk : Byte → Instr) : List Byte → Option Instr
  | [b] => some (mk b)
  | _ => none

/-- H_BB: two bytes (30_encoding.md R81). -/
def operandsBB (mk : Byte → Byte → Instr) : List Byte → Option Instr
  | [b1, b2] => some (mk b1 b2)
  | _ => none

/-- H_4: four bytes (30_encoding.md R81). -/
def operands4 (mk : Quad → Instr) : List Byte → Option Instr
  | [d0, d1, d2, d3] => some (mk ⟨d0, d1, d2, d3⟩)
  | _ => none

/-- H_P4: a page and four bytes (30_encoding.md R81). -/
def operandsP4 (mk : Byte → Quad → Instr) : List Byte → Option Instr
  | [p, d0, d1, d2, d3] => some (mk p ⟨d0, d1, d2, d3⟩)
  | _ => none

/-- H_FR: start, stop and a 16-bit capacity, low byte first (30_encoding.md R81, R83). -/
def operandsFR (mk : Byte → Byte → Word16 → Instr) : List Byte → Option Instr
  | [a, b, c0, c1] => some (mk a b (word16OfLe c0 c1))
  | _ => none

/-- H_CNT: an address and a 32-bit value, low byte first (30_encoding.md R81, R83). -/
def operandsCNT (mk : Byte → BitVec 32 → Instr) : List Byte → Option Instr
  | [a, v0, v1, v2, v3] => some (mk a (word32OfLe v0 v1 v2 v3))
  | _ => none

/-- H_PW: a password and a pack (30_encoding.md R81). -/
def operandsPW (mk : Quad → Byte → Byte → Instr) : List Byte → Option Instr
  | [p0, p1, p2, p3, k0, k1] => some (mk ⟨p0, p1, p2, p3⟩ k0 k1)
  | _ => none

/-- H_LK: five lock bytes (30_encoding.md R81). -/
def operandsLK (mk : Byte → Byte → Byte → Byte → Byte → Instr) : List Byte → Option Instr
  | [l0, l1, l2, l3, l4] => some (mk l0 l1 l2 l3 l4)
  | _ => none

/-- H_CRC: a count n and exactly n bytes (30_encoding.md R81, R84). -/
def operandsCRC (mk : List Byte → Instr) : List Byte → Option Instr
  | [] => none
  | n :: data => if data.length = n.toNat then some (mk data) else none

/-- The operands of a descriptor whose OPSEL is known; none where the length is not the format's (30_encoding.md R84, R85). -/
def operandsOf (o : Opsel) (operands : List Byte) : Option Instr :=
  match o with
  | .init => operandsNone .init operands
  | .deinit => operandsNone .deinit operands
  | .info => operandsNone .info operands
  | .setStorage => operandsB .setStorage operands
  | .getStorage => operandsNone .getStorage operands
  | .crc16 => operandsCRC .crc16 operands
  | .crcCheck => operandsCRC .crcCheck operands
  | .request => operandsNone .request operands
  | .wakeUp => operandsNone .wakeUp operands
  | .halt => operandsNone .halt operands
  | .anticollCl1 => operandsNone .anticollCl1 operands
  | .selectCl1 => operands4 .selectCl1 operands
  | .anticollCl2 => operandsNone .anticollCl2 operands
  | .selectCl2 => operands4 .selectCl2 operands
  | .getVersion => operandsNone .getVersion operands
  | .readPage => operandsB .readPage operands
  | .readFourPages => operandsB .readFourPages operands
  | .fastRead => operandsFR .fastRead operands
  | .writePage => operandsP4 .writePage operands
  | .compWrite => operandsP4 .compWrite operands
  | .readSerial => operandsNone .readSerial operands
  | .otpRead => operandsNone .otpRead operands
  | .otpWrite => operands4 .otpWrite operands
  | .readSignature => operandsNone .readSignature operands
  | .readCounter => operandsB .readCounter operands
  | .incrementCounter => operandsCNT .incrementCounter operands
  | .checkTearing => operandsB .checkTearing operands
  | .authenticate => operandsPW .authenticate operands
  | .setPasswordPack => operandsPW .setPasswordPack operands
  | .setLock => operandsLK .setLock operands
  | .getLock => operandsNone .getLock operands
  | .setModulation => operandsB .setModulation operands
  | .getModulation => operandsNone .getModulation operands
  | .setProtectStart => operandsB .setProtectStart operands
  | .getProtectStart => operandsNone .getProtectStart operands
  | .setAccess => operandsBB .setAccess operands
  | .getAccess => operandsB .getAccess operands
  | .setAuthLimit => operandsB .setAuthLimit operands
  | .getAuthLimit => operandsNone .getAuthLimit operands
  | .setVctid => operandsB .setVctid operands
  | .getVctid => operandsNone .getVctid operands

/-- The decoder: total on any byte sequence (30_encoding.md R80 to R85). -/
def decode : List Byte → Except DecodeError Instr
  | [] => .error .noBytes
  | c0 :: operands =>
    match opselOf c0 with
    | none => .error (.reservedOpsel c0)
    | some o =>
      match operandsOf o operands with
      | some i => .ok i
      | none => .error (.wrongLength o (operands.length + 1))

/-- The operand bytes of a command, in the layout of its format (30_encoding.md R81, R83). -/
def operandBytes : Instr → List Byte
  | .init => []
  | .deinit => []
  | .info => []
  | .setStorage e => [e]
  | .getStorage => []
  | .crc16 data => BitVec.ofNat 8 data.length :: data
  | .crcCheck data => BitVec.ofNat 8 data.length :: data
  | .request => []
  | .wakeUp => []
  | .halt => []
  | .anticollCl1 => []
  | .selectCl1 id => quadBytes id
  | .anticollCl2 => []
  | .selectCl2 id => quadBytes id
  | .getVersion => []
  | .readPage p => [p]
  | .readFourPages p => [p]
  | .fastRead start stop cap => [start, stop] ++ le16 cap
  | .writePage p d => p :: quadBytes d
  | .compWrite p d => p :: quadBytes d
  | .readSerial => []
  | .otpRead => []
  | .otpWrite d => quadBytes d
  | .readSignature => []
  | .readCounter a => [a]
  | .incrementCounter a v => a :: le32 v
  | .checkTearing a => [a]
  | .authenticate pwd k0 k1 => quadBytes pwd ++ [k0, k1]
  | .setPasswordPack pwd k0 k1 => quadBytes pwd ++ [k0, k1]
  | .setLock l0 l1 l2 l3 l4 => [l0, l1, l2, l3, l4]
  | .getLock => []
  | .setModulation m => [m]
  | .getModulation => []
  | .setProtectStart p => [p]
  | .getProtectStart => []
  | .setAccess which enable => [which, enable]
  | .getAccess which => [which]
  | .setAuthLimit l => [l]
  | .getAuthLimit => []
  | .setVctid v => [v]
  | .getVctid => []

/-- The encoder: the descriptor of a well-formed command (30_encoding.md R80 to R83). -/
def encode (i : Instr) : List Byte := opselCode i.opsel :: operandBytes i

/-- The whole bytes of a table word: byte k is bits 8k+7 to 8k (30_encoding.md R80). -/
def tableBytes (nbits w : Nat) : List Byte :=
  (List.range (nbits / 8)).map fun k => BitVec.ofNat 8 (w / 2 ^ (8 * k))

/-- A byte sequence lengthened with bytes of 0 to the length its OPSEL and C[1] give it (30_encoding.md R84); one whose
OPSEL is reserved, or that is long enough, stays as it is. -/
def padDescriptor (c : List Byte) : List Byte :=
  match c with
  | [] => []
  | c0 :: rest =>
    match opselOf c0 with
    | none => c
    | some o => c ++ List.replicate (formatLength (rest.headD 0x00#8) (formatOf o) - c.length) 0x00#8

/-- The descriptor that a table word stands for, its operand bytes above nbits zero. -/
def tableDescriptor (nbits w : Nat) : List Byte := padDescriptor (tableBytes nbits w)

/-- The command the decoder reads from a table word; none where it refuses. -/
def decodeTableWord (nbits w : Nat) : Option Instr :=
  match decode (tableDescriptor nbits w) with
  | .ok i => some i
  | .error _ => none

end Sys2Proof
end

