-- ==== Sys2Proof/Machine/Crc.lean ====
section
/-! DEFINITION. The CRC_A function of 40_crc.md: the byte step that defines it, and the bit-serial form that R122 says
is equivalent. -/

namespace Sys2Proof.Machine

/-- CRC_SEED (00_scope.md R9, 40_crc.md R121). -/
def crcSeed : Word16 := 0x6363#16

/-- One byte of the CRC, as 40_crc.md R121 folds it: the low byte of the register is xored in, diffused by an 8-bit
shift of 4, and folded into the shifted register. -/
def crcStep (w : Word16) (b : Byte) : Word16 :=
  let bt : Byte := b ^^^ loByte w
  let bt : Byte := bt ^^^ (bt <<< 4)
  let z : Word16 := bt.setWidth 16
  (w >>> 8) ^^^ (z <<< 8) ^^^ (z <<< 3) ^^^ (z >>> 4)

/-- The CRC register after the bytes, from any start value. -/
def crcFrom (w : Word16) (bytes : List Byte) : Word16 := bytes.foldl crcStep w

/-- crc16(s) (40_crc.md R121): total, no final xor. -/
def crc16 (bytes : List Byte) : Word16 := crcFrom crcSeed bytes

/-- One bit of the bit-serial form: shift right, and fold in the reflected polynomial 0x8408 when the bit that left was
one (40_crc.md R122). -/
def crcBit (w : Word16) : Word16 :=
  if w.getLsbD 0 then (w >>> 1) ^^^ 0x8408#16 else w >>> 1

/-- One byte of the bit-serial form: xor the byte in, then eight bits (40_crc.md R122). -/
def crcStepBitSerial (w : Word16) (b : Byte) : Word16 :=
  crcBit (crcBit (crcBit (crcBit (crcBit (crcBit (crcBit (crcBit (w ^^^ b.setWidth 16))))))))

end Sys2Proof.Machine
end

