-- ==== Sys2Proof/Machine/Params.lean ====
section
/-! DEFINITION. The fixed constants of 00_scope.md R9 and the default parameters of R10, R11 and 46_config.md R300.
Every wire opcode but 0x26 and 0x60, the fixed pages and the field layout are the spec's general-knowledge defaults
(log entries 13 and 14). -/

namespace Sys2Proof.Machine

/-- ACK (00_scope.md R9). -/
def ackByte : Byte := 0x0A#8
/-- SAK_CL1 (00_scope.md R9). -/
def sakCl1 : Byte := 0x04#8
/-- SAK_CL2 (00_scope.md R9). -/
def sakCl2 : Byte := 0x00#8
/-- ATQA_UL (00_scope.md R9). -/
def atqaUl : List Byte := [0x44#8, 0x00#8]
/-- END_PAGE_UNKNOWN, the sentinel (00_scope.md R9). -/
def endPageUnknown : Byte := 0xFF#8
/-- STORAGE_20, the storage byte of the 20-page variant (00_scope.md R9). -/
def storage20 : Byte := 0x0B#8
/-- The end page of the 20-page variant (44_memory_ops.md R230). -/
def endPage20 : Byte := 0x13#8
/-- STORAGE_41, the storage byte of the 41-page variant (00_scope.md R9). -/
def storage41 : Byte := 0x0E#8
/-- The end page of the 41-page variant (44_memory_ops.md R230). -/
def endPage41 : Byte := 0x28#8
/-- OFF_PWD (00_scope.md R9). -/
def offPwd : Byte := 1#8
/-- OFF_CFG1 (00_scope.md R9). -/
def offCfg1 : Byte := 2#8
/-- OFF_CFG0 (00_scope.md R9). -/
def offCfg0 : Byte := 3#8
/-- OFF_DYNLOCK (00_scope.md R9). -/
def offDynLock : Byte := 4#8
/-- FAST_READ_MAX_PAGES (00_scope.md R9). -/
def fastReadMaxPages : Nat := 15
/-- PAGE_BYTES (00_scope.md R9). -/
def pageBytes : Nat := 4
/-- READ_DATA_BYTES (00_scope.md R9). -/
def readDataBytes : Nat := 16
/-- The highest counter address of COUNTER_ADDRS (00_scope.md R9). -/
def counterAddrMax : Byte := 2#8
/-- VERSION_BYTES (00_scope.md R9). -/
def versionBytes : Nat := 8
/-- The length of the signature (44_memory_ops.md R239). -/
def signatureBytes : Nat := 32

/-- The default WIRE_OP table (00_scope.md R10). -/
def defaultWireOp : WireOp where
  reqa := 0x26#8
  wupa := 0x52#8
  hlta0 := 0x50#8
  hlta1 := 0x00#8
  anticollCl1First := 0x93#8
  anticollCl1Second := 0x20#8
  anticollCl2First := 0x95#8
  anticollCl2Second := 0x20#8
  selectCl1First := 0x93#8
  selectCl1Second := 0x70#8
  selectCl2First := 0x95#8
  selectCl2Second := 0x70#8
  getVersion := 0x60#8
  read := 0x30#8
  fastRead := 0x3A#8
  write := 0xA2#8
  compWrite := 0xA0#8
  readCnt := 0x39#8
  incrCnt := 0xA5#8
  checkTearing := 0x3E#8
  readSig := 0x3C#8
  readSigAddr := 0x00#8
  pwdAuth := 0x1B#8

/-- The default CFG_FIELD table (46_config.md R300). -/
def defaultCfgFields : CfgFields where
  mod := ⟨offCfg0, 0, 3, 1⟩
  auth0 := ⟨offCfg0, 3, 0, 8⟩
  prot := ⟨offCfg1, 0, 7, 1⟩
  cfglck := ⟨offCfg1, 0, 6, 1⟩
  authlim := ⟨offCfg1, 0, 0, 3⟩
  vctid := ⟨offCfg1, 1, 0, 8⟩

/-- The default parameters (00_scope.md R11). The two OPEN parameters are opaque constants (log entry 4). -/
def defaultParams : Params where
  wireOp := defaultWireOp
  wupaDelayMs := Config.wupaDelayMs
  haltAppendCrc := false
  enforceCascadeOrder := false
  lockLowPage := 0x02#8
  otpPage := 0x03#8
  serialPage := 0x00#8
  cfgFields := defaultCfgFields
  statusOverrides := []
  infoRecord := Config.infoRecord
  rxLenMax := 255#8

/-- CFG_FIELD(f) (46_config.md R300). -/
def cfgFieldOf (p : Params) : Field → CfgField
  | .mod => p.cfgFields.mod
  | .auth0 => p.cfgFields.auth0
  | .prot => p.cfgFields.prot
  | .cfglck => p.cfgFields.cfglck
  | .authlim => p.cfgFields.authlim
  | .vctid => p.cfgFields.vctid

end Sys2Proof.Machine
end

