-- ==== Sys2Proof/Machine/State.lean ====
section
/-! DEFINITION. The state of the block (10_state.md), its faults and refusals, and its state at power-on (70_reset_and_hazards.md
R380). The block has no register file, no program counter and no memory (R30, R31, R60). -/

namespace Sys2Proof.Machine

/-- DTYPE, the detected tag type: INVALID = 0, ULTRALIGHT = 1 (10_state.md R33). -/
inductive TagType where
  | invalid | ultralight
  deriving DecidableEq, Repr

/-- SEL_STATE: NOT_SELECTED = 0, CL1_DONE = 1, CL2_DONE = 2; the value 3 is never written (10_state.md R35). -/
inductive SelState where
  | notSelected | cl1Done | cl2Done
  deriving DecidableEq, Repr

/-- Everything the spec gives the block, and its inputs, its configuration and its observation. -/
structure State where
  /-- INIT_FLAG (10_state.md R32) -/
  initFlag : Bool
  /-- DTYPE (10_state.md R33) -/
  dtype : TagType
  /-- END_PAGE (10_state.md R34) -/
  endPage : Byte
  /-- SEL_STATE (10_state.md R35) -/
  selState : SelState
  /-- CRC_REG (10_state.md R36) -/
  crcReg : Word16
  /-- TXBUF[0..17] (10_state.md R37) -/
  txBuf : Vector Byte 18
  /-- TX_LEN (10_state.md R37) -/
  txLen : Byte
  /-- RXBUF[0..254] (10_state.md R38) -/
  rxBuf : Vector Byte 255
  /-- RX_LEN (10_state.md R38) -/
  rxLen : Byte
  /-- STATUS (10_state.md R39) -/
  status : Byte
  /-- OUTCOME, none before any command has completed (10_state.md R40) -/
  outcome : Option CmdOutcome
  /-- RESULT[0..59] (10_state.md R41) -/
  result : Vector Byte 60
  /-- RESULT_LEN (10_state.md R41) -/
  resultLen : Byte
  /-- the input COLLAB_PRESENT (10_state.md R42; log entry 6) -/
  collabPresent : BitVec 5
  /-- the descriptors the host has issued and the block has not accepted yet (10_state.md R43; log entry 1) -/
  commands : List (List Byte)
  /-- the transceiver's answers to the exchanges to come, in order (00_scope.md R16; log entry 2) -/
  exchangeAnswers : List Answer
  /-- the RF front end's statuses for the calls to come, in order (00_scope.md R16; log entry 2) -/
  rfAnswers : List Nat
  /-- the model's own: which free value the next unlisted answer is (log entries 2 and 15) -/
  freeCount : Nat
  /-- the external events so far, oldest first (70_reset_and_hazards.md R396; log entries 10 and 21) -/
  trace : List Event
  /-- the configuration, written by no operation (10_state.md R45; log entry 4) -/
  params : Params
  deriving DecidableEq, Repr

/-- Why the block stops without completing a command. -/
inductive Fault where
  /-- Raised by an Exchange whose answer never comes: the command does not complete and no register is written
  (60_exceptions.md R352, 93_implementation_defined.md I9). Safe for the registers: the block stays in that command for ever.
  Unsafe for the trace: the events the command made are dropped (DESIGN CHOICE, log entry 21). -/
  | exchangeNeverReturns
  deriving DecidableEq, Repr

/-- Why an instruction has no meaning. -/
inductive Refusal where
  /-- Raised by exec for a command that has no meaning yet; no command is left so. Safe: nothing follows from it. -/
  | notModelled (mnemonic : String)
  deriving DecidableEq, Repr

/-- Power-on (70_reset_and_hazards.md R380). Unspecified registers are zero (log entry 7); no command, answer or status is
pending; the parameters are the defaults (00_scope.md R11) and every collaborator is wired (log entry 6). -/
def State.reset : State where
  initFlag := false
  dtype := .invalid
  endPage := 0x00#8
  selState := .notSelected
  crcReg := 0x0000#16
  txBuf := Vector.replicate 18 0x00#8
  txLen := 0x00#8
  rxBuf := Vector.replicate 255 0x00#8
  rxLen := 0x00#8
  status := 0x00#8
  outcome := none
  result := Vector.replicate 60 0x00#8
  resultLen := 0x00#8
  collabPresent := 0b11111#5
  commands := []
  exchangeAnswers := []
  rfAnswers := []
  freeCount := 0
  trace := []
  params := defaultParams

end Sys2Proof.Machine
end

