-- ==== Sys2Proof/Machine/Flags.lean ====
section
/-! DEFINITION. The numeric status codes (60_exceptions.md R342) and the numeric values of the encoded session registers. -/

namespace Sys2Proof.Machine

/-- The common table of 60_exceptions.md R342. The three FAST_READ range outcomes stand here with FAST_READ's own codes;
no other command raises them (log entry 5). -/
def commonStatusCode : CmdOutcome → Byte
  | .ok => 0#8
  | .transportFailed | .operationFailed => 1#8
  | .nullHandle => 2#8
  | .notInitialized => 3#8
  | .missingDebugSink | .missingInit | .missingDeinit | .missingTransceiver | .missingDelay => 3#8
  | .invalidResponseLength => 4#8
  | .checksumError | .sakError | .typeInvalid => 5#8
  | .ackError | .packMismatch | .invalidAddress => 6#8
  | .sequenceError | .invalidParameter => 7#8
  | .illegalCommand => 0xFF#8
  | .invalidRange => 4#8
  | .rangeTooLarge => 5#8
  | .bufferTooSmall => 6#8

/-- The default STATUS_CODE(command, outcome): the common table with the overrides of FAST_READ and INCREMENT_COUNTER
(60_exceptions.md R342). -/
def defaultStatusCode (c : Option Opsel) (o : CmdOutcome) : Byte :=
  if c = some .fastRead ∧ o = .invalidResponseLength then 7#8
  else if c = some .fastRead ∧ o = .checksumError then 8#8
  else if c = some .incrementCounter ∧ o = .invalidAddress then 7#8
  else commonStatusCode o

/-- STATUS_CODE(command, outcome) of an instance: its first override for the pair, else the default (00_scope.md R11; log
entry 5). -/
def statusCode (p : Params) (c : Option Opsel) (o : CmdOutcome) : Byte :=
  match p.statusOverrides.find? fun x => x.command == c && x.outcome == o with
  | some x => x.code
  | none => defaultStatusCode c o

/-- The encoding of DTYPE (10_state.md R33). -/
def tagTypeCode : TagType → BitVec 1
  | .invalid => 0#1
  | .ultralight => 1#1

/-- The encoding of SEL_STATE (10_state.md R35). -/
def selStateCode : SelState → BitVec 2
  | .notSelected => 0#2
  | .cl1Done => 1#2
  | .cl2Done => 2#2

end Sys2Proof.Machine
end

