-- ==== Sys2Proof/Machine/Ops.lean ====
section
/-! DEFINITION. The shared operations of the block: ending a command (its only form of taking an exception,
60_exceptions.md R341, R345), the external primitives (00_scope.md R16), the gate, the validator's checks and the page
primitives (41_frame_codec.md), the cascade check (43_selection.md R207) and the configuration primitives (46_config.md
R301). -/

namespace Sys2Proof.Machine

/-- How a piece of a command ends: it goes on with a value, it raises an outcome (00_scope.md R14: nothing after a raise
runs), or it never ends (60_exceptions.md R352), and then it carries no state (DESIGN CHOICE for the trace, log entry 21). -/
inductive Run (α : Type) where
  | ok (a : α) (s : State)
  | raised (o : CmdOutcome) (s : State)
  | stuck (f : Fault)

/-- Sequencing: the rest runs only after a piece that went on. -/
def Run.andThen {α β : Type} (r : Run α) (k : α → State → Run β) : Run β :=
  match r with
  | .ok a s => k a s
  | .raised o s => .raised o s
  | .stuck f => .stuck f

/-- A register write on the failure path: it happens just before the raise (43_selection.md R200, R204). -/
def Run.onRaise {α : Type} (r : Run α) (w : State → State) : Run α :=
  match r with
  | .ok a s => .ok a s
  | .raised o s => .raised o (w s)
  | .stuck f => .stuck f

/-! ### Ending a command -/

/-- STATUS and OUTCOME of a command that ends with outcome o (60_exceptions.md R341, step 1). -/
def State.ended (s : State) (c : Option Opsel) (o : CmdOutcome) : State :=
  { s with status := statusCode s.params c o, outcome := some o }

/-- The end of a command, by return or by raise: STATUS and OUTCOME are written and control goes back to the host
(60_exceptions.md R341, R345, R346). A command that never ends writes nothing (R352). -/
def finish (c : Opsel) (r : Run Unit) : Host.Outcome State Fault Refusal :=
  match r with
  | .ok _ s => .next (s.ended (some c) .ok)
  | .raised o s => .next (s.ended (some c) o)
  | .stuck f => .fault f

/-- An illegal descriptor: IllegalCommand, no session register, no exchange, before the gate (30_encoding.md R85). -/
def endIllegal (c : Option Opsel) (s : State) : Host.Outcome State Fault Refusal :=
  .next (s.ended c .illegalCommand)

/-! ### Register updates -/

/-- RESULT[0..] and RESULT_LEN (10_state.md R41). -/
def State.setResult (s : State) (bytes : List Byte) : State :=
  { s with result := fillBuffer s.result bytes, resultLen := BitVec.ofNat 8 bytes.length }

/-- RESULT[0 .. RESULT_LEN - 1], what the host may read (70_reset_and_hazards.md R380, R391). -/
def State.resultBytes (s : State) : List Byte := s.result.toList.take s.resultLen.toNat

/-- A computation of the CRC engine over the bytes: CRC_REG is loaded with the seed and ends with the value (10_state.md
R36, 40_crc.md R121). -/
def State.computeCrc (s : State) (bytes : List Byte) : State := { s with crcReg := crc16 bytes }

/-- TXBUF and TX_LEN filled with a frame (10_state.md R37). -/
def State.loadFrame (s : State) (tx : List Byte) : State :=
  { s with txBuf := fillBuffer s.txBuf tx, txLen := BitVec.ofNat 8 tx.length }

/-- The frame in the transmit buffer, TXBUF[0 .. TX_LEN - 1]. -/
def State.txFrame (s : State) : List Byte := s.txBuf.toList.take s.txLen.toNat

/-- RXBUF and RX_LEN filled with a response (10_state.md R38). -/
def State.loadResponse (s : State) (rx : List Byte) : State :=
  { s with rxBuf := fillBuffer s.rxBuf rx, rxLen := BitVec.ofNat 8 rx.length }

/-- The response in the receive buffer, RXBUF[0 .. RX_LEN - 1]. -/
def State.rxFrame (s : State) : List Byte := s.rxBuf.toList.take s.rxLen.toNat

/-- An external event, recorded in order (70_reset_and_hazards.md R396). -/
def State.emit (s : State) (e : Event) : State := { s with trace := s.trace ++ [e] }

/-! ### External primitives -/

/-- The transceiver's next answer: the first one listed, or a free value (00_scope.md R16, 60_exceptions.md R354; log
entry 2). -/
def nextAnswer (s : State) : Answer × State :=
  match s.exchangeAnswers with
  | a :: rest => (a, { s with exchangeAnswers := rest })
  | [] => (Config.freeAnswer s.freeCount, { s with freeCount := s.freeCount + 1 })

/-- The RF front end's next status: the first one listed, or a free value (00_scope.md R16; log entry 2). -/
def nextRfStatus (s : State) : Nat × State :=
  match s.rfAnswers with
  | st :: rest => (st, { s with rfAnswers := rest })
  | [] => (Config.freeRfStatus s.freeCount, { s with freeCount := s.freeCount + 1 })

/-- What the transceiver interface delivers of the bytes an answer holds: at most RX_LEN_MAX (00_scope.md R16; log entry 3). -/
def deliverable (p : Params) (bytes : List Byte) : List Byte := bytes.take p.rxLenMax.toNat

/-- Exchange(tx, cap): one indivisible event (00_scope.md R16, 20_memory.md R72). The frame goes through TXBUF, the
response into RXBUF; the transport status is the answer. An answer that never comes stops the command with the fault alone: that
the trace then holds none of its events, this Exchange and the earlier ones, is the model's choice, the spec being silent
(70_reset_and_hazards.md R396; DESIGN CHOICE, log entry 21). -/
def exchange (tx : List Byte) (cap : Nat) (s : State) : Run Nat :=
  let s := s.loadFrame tx
  let s := s.emit (.exchange s.txFrame cap)
  match nextAnswer s with
  | (.returns st bytes, s) => .ok st (s.loadResponse (deliverable s.params bytes))
  | (.neverReturns, _) => .stuck .exchangeNeverReturns

/-- RfInit() (00_scope.md R16). -/
def rfInit (s : State) : Nat × State := nextRfStatus (s.emit .rfInit)

/-- RfDeinit() (00_scope.md R16). -/
def rfDeinit (s : State) : Nat × State := nextRfStatus (s.emit .rfDeinit)

/-- DelayMs(n): waits and has no outcome (00_scope.md R16, 60_exceptions.md R349). -/
def delayMs (n : Nat) (s : State) : State := s.emit (.delayMs n)

/-! ### Frames, gate and checks (41_frame_codec.md) -/

/-- WithCRC(P) = P ++ [lo(crc16(P)), hi(crc16(P))] (41_frame_codec.md R140). -/
def frameWithCrc (payload : List Byte) : List Byte := payload ++ le16 (crc16 payload)

/-- A W_CRC or W_DATA frame, built by the CRC engine (30_encoding.md R90, 41_frame_codec.md R140). -/
def withCrc (payload : List Byte) (s : State) : Run (List Byte) :=
  let s := s.computeCrc payload
  .ok (payload ++ le16 s.crcReg) s

/-- RequireInit() (41_frame_codec.md R142). -/
def requireInit (s : State) : Run Unit :=
  if s.initFlag then .ok () s else .raised .notInitialized s

/-- A gated command: the gate is its first step (41_frame_codec.md R142). -/
def gated (c : Opsel) (s : State) (body : State → Run Unit) : Host.Outcome State Fault Refusal :=
  finish c ((requireInit s).andThen fun _ s => body s)

/-- Transact(tx, cap): a transport failure ends the command at once (41_frame_codec.md R143). -/
def transact (tx : List Byte) (cap : Nat) (s : State) : Run (List Byte) :=
  (exchange tx cap s).andThen fun st s =>
  if st ≠ 0 then .raised .transportFailed s else .ok s.rxFrame s

/-- CheckLen(rx, n): strict equality (41_frame_codec.md R144). -/
def checkLen (rx : List Byte) (n : Nat) (s : State) : Run Unit :=
  if rx.length ≠ n then .raised .invalidResponseLength s else .ok () s

/-- CheckCRC(rx): the CRC of all bytes but the last two is compared with the last two, low byte first
(41_frame_codec.md R145). -/
def checkCrc (rx : List Byte) (s : State) : Run Unit :=
  let s := s.computeCrc (rx.take (rx.length - 2))
  if rx.drop (rx.length - 2) ≠ le16 s.crcReg then .raised .checksumError s else .ok () s

/-- CheckAck(rx) (41_frame_codec.md R146). -/
def checkAck (rx : List Byte) (s : State) : Run Unit :=
  if rx ≠ [ackByte] then .raised .ackError s else .ok () s

/-- CheckBCC(rx), applied to five bytes (41_frame_codec.md R147). -/
def checkBcc (rx : List Byte) (s : State) : Run Unit :=
  if rx.getD 4 0#8 ≠ bcc ⟨rx.getD 0 0#8, rx.getD 1 0#8, rx.getD 2 0#8, rx.getD 3 0#8⟩ then .raised .checksumError s
  else .ok () s

/-- CheckSak(rx, e) (41_frame_codec.md R148). -/
def checkSak (rx : List Byte) (e : Byte) (s : State) : Run Unit :=
  if rx ≠ [e] then .raised .sakError s else .ok () s

/-- CheckAtqa(rx) (41_frame_codec.md R149). -/
def checkAtqa (rx : List Byte) (s : State) : Run Unit :=
  if rx ≠ atqaUl then .raised .typeInvalid s else .ok () s

/-- CheckCascade(required) (43_selection.md R207). -/
def checkCascade (required : SelState) (s : State) : Run Unit :=
  if s.params.enforceCascadeOrder = true ∧ s.selState ≠ required then .raised .sequenceError s else .ok () s

/-- The counter address check (45_counter_auth.md R270 to R272). -/
def checkCounterAddr (a : Byte) (s : State) : Run Unit :=
  if counterAddrMax < a then .raised .invalidAddress s else .ok () s

/-- An operand check of the configuration commands: legal values are 0 to max (46_config.md R304, R308, R310). -/
def checkAtMost (v max : Byte) (s : State) : Run Unit :=
  if max < v then .raised .invalidParameter s else .ok () s

/-! ### Exchanges that several commands share -/

/-- A W_CRC exchange answered by R_DATA(n): the n data bytes (30_encoding.md R91, 41_frame_codec.md R156). -/
def transactData (payload : List Byte) (n : Nat) (s : State) : Run (List Byte) :=
  (withCrc payload s).andThen fun tx s =>
  (transact tx (n + 2) s).andThen fun rx s =>
  (checkLen rx (n + 2) s).andThen fun _ s =>
  (checkCrc rx s).andThen fun _ s =>
  .ok (rx.take n) s

/-- A W_CRC or W_DATA exchange answered by R_ACK (30_encoding.md R91, 41_frame_codec.md R156). -/
def transactAck (payload : List Byte) (s : State) : Run Unit :=
  (withCrc payload s).andThen fun tx s =>
  (transact tx 1 s).andThen fun rx s =>
  (checkLen rx 1 s).andThen fun _ s =>
  checkAck rx s

/-- ReadPageRaw(p): 16 bytes starting at page p (41_frame_codec.md R150). -/
def readPageRaw (p : Byte) (s : State) : Run (List Byte) :=
  transactData [s.params.wireOp.read, p] readDataBytes s

/-- WritePageRaw(p, d): the four bytes d to page p (41_frame_codec.md R151). -/
def writePageRaw (p : Byte) (d : List Byte) (s : State) : Run Unit :=
  transactAck ([s.params.wireOp.write, p] ++ d) s

/-- The page of a configuration field (46_config.md R301). -/
def fieldPage (f : Field) (s : State) : Byte := pageAt s.endPage (cfgFieldOf s.params f).offset

/-- CfgSet(f, v): read the page, change the field, write all four bytes back (46_config.md R301). -/
def cfgSet (f : Field) (v : Byte) (s : State) : Run Unit :=
  (readPageRaw (fieldPage f s) s).andThen fun d s =>
  writePageRaw (fieldPage f s) (setFieldByte (cfgFieldOf s.params f) v (d.take pageBytes)) s

/-- CfgGet(f): read the page and extract the field (46_config.md R301). -/
def cfgGet (f : Field) (s : State) : Run Byte :=
  (readPageRaw (fieldPage f s) s).andThen fun d s =>
  .ok (fieldOfPage (cfgFieldOf s.params f) (d.take pageBytes)) s

end Sys2Proof.Machine
end

