-- ==== Sys2Proof/Machine/Accept.lean ====
section
/-! DEFINITION. Accepting a descriptor at the host command port (10_state.md R43): which command an illegal descriptor
belongs to, and where a descriptor is placed. -/

namespace Sys2Proof.Machine

/-- The command whose STATUS_CODE an illegal descriptor takes: the one its OPSEL names, none where it names none
(30_encoding.md R85, 60_exceptions.md R342; log entry 11). -/
def commandOfError : DecodeError → Option Opsel
  | .noBytes => none
  | .reservedOpsel _ => none
  | .wrongLength o _ => some o

/-- The state once the block has accepted the first pending descriptor (10_state.md R43). -/
def State.accepted (s : State) (rest : List (List Byte)) : State := { s with commands := rest }

/-- A descriptor placed at the host command port, to be accepted next (10_state.md R43; log entry 1). -/
def State.issue (s : State) (c : List Byte) : State := { s with commands := c :: s.commands }

end Sys2Proof.Machine
end

