-- ==== Sys2Proof/Machine/CounterAuth.lean ====
section
/-! DEFINITION. The counter and authentication commands (45_counter_auth.md). -/

namespace Sys2Proof.Machine

/-- READ_COUNTER (45_counter_auth.md R270): the value as four bytes, the top one zero. -/
def execReadCounter (a : Byte) (s : State) : Host.Outcome State Fault Refusal :=
  gated .readCounter s fun s =>
  (checkCounterAddr a s).andThen fun _ s =>
  (transactData [s.params.wireOp.readCnt, a] 3 s).andThen fun d s =>
  .ok () (s.setResult (d ++ [0x00#8]))

/-- The bytes of an INCREMENT_COUNTER frame before its CRC: opcode, address, 24-bit delta, reserved zero byte
(45_counter_auth.md R271). -/
def incrementPayload (op a : Byte) (v : BitVec 32) : List Byte := [op, a] ++ le24 v ++ [0x00#8]

/-- INCREMENT_COUNTER (45_counter_auth.md R271). -/
def execIncrementCounter (a : Byte) (v : BitVec 32) (s : State) : Host.Outcome State Fault Refusal :=
  gated .incrementCounter s fun s =>
  (checkCounterAddr a s).andThen fun _ s =>
  transactAck (incrementPayload s.params.wireOp.incrCnt a v) s

/-- CHECK_TEARING (45_counter_auth.md R272): the flag byte is returned as received. -/
def execCheckTearing (a : Byte) (s : State) : Host.Outcome State Fault Refusal :=
  gated .checkTearing s fun s =>
  (checkCounterAddr a s).andThen fun _ s =>
  (transactData [s.params.wireOp.checkTearing, a] 1 s).andThen fun d s =>
  .ok () (s.setResult d)

/-- AUTHENTICATE (45_counter_auth.md R273): the pack is compared after the CRC. -/
def execAuthenticate (pwd : Quad) (k0 k1 : Byte) (s : State) : Host.Outcome State Fault Refusal :=
  gated .authenticate s fun s =>
  (transactData (s.params.wireOp.pwdAuth :: quadBytes pwd) 2 s).andThen fun d s =>
  if d ≠ [k0, k1] then .raised .packMismatch s else .ok () (s.setResult d)

/-- SET_PASSWORD_PACK (45_counter_auth.md R274): the password page, then the pack page. -/
def execSetPasswordPack (pwd : Quad) (k0 k1 : Byte) (s : State) : Host.Outcome State Fault Refusal :=
  gated .setPasswordPack s fun s =>
  (writePageRaw (pageAt s.endPage offPwd) (quadBytes pwd) s).andThen fun _ s =>
  writePageRaw s.endPage [k0, k1, 0x00#8, 0x00#8] s

end Sys2Proof.Machine
end

