-- ==== Sys2Proof/Machine/CrcCommands.lean ====
section
/-! DEFINITION. The host commands of the CRC engine (40_crc.md): CRC16 and CRC_CHECK. -/

namespace Sys2Proof.Machine

/-- CRC16 (40_crc.md R126). -/
def execCrc16 (data : List Byte) (s : State) : Host.Outcome State Fault Refusal :=
  gated .crc16 s fun s =>
  let s := s.computeCrc data
  .ok () (s.setResult (le16 s.crcReg))

/-- CRC_CHECK (40_crc.md R127): fewer than two bytes is InvalidResponseLength, then the comparison of CheckCRC. -/
def execCrcCheck (data : List Byte) (s : State) : Host.Outcome State Fault Refusal :=
  gated .crcCheck s fun s =>
  if data.length < 2 then .raised .invalidResponseLength s
  else (checkCrc data s).andThen fun _ s => .ok () (s.setResult (le16 s.crcReg))

end Sys2Proof.Machine
end

