-- ==== Sys2Proof/Machine/LockConfig.lean ====
section
/-! DEFINITION. The lock and configuration commands (46_config.md). -/

namespace Sys2Proof.Machine

/-- SET_LOCK (46_config.md R302): lock bytes 0 and 1 to the low page, then 2 to 4 to END_PAGE - 4. -/
def execSetLock (l0 l1 l2 l3 l4 : Byte) (s : State) : Host.Outcome State Fault Refusal :=
  gated .setLock s fun s =>
  (writePageRaw s.params.lockLowPage [0x00#8, 0x00#8, l0, l1] s).andThen fun _ s =>
  writePageRaw (pageAt s.endPage offDynLock) [l2, l3, l4, 0x00#8] s

/-- The five lock bytes within the two reads (46_config.md R303). -/
def lockBytes (d e : List Byte) : List Byte := (d.drop 2).take 2 ++ e.take 3

/-- GET_LOCK (46_config.md R303). -/
def execGetLock (s : State) : Host.Outcome State Fault Refusal :=
  gated .getLock s fun s =>
  (readPageRaw s.params.lockLowPage s).andThen fun d s =>
  (readPageRaw (pageAt s.endPage offDynLock) s).andThen fun e s =>
  .ok () (s.setResult (lockBytes d e))

/-- A configuration GET: the field's value is the one result byte (46_config.md R305, R307, R309, R311, R313). -/
def getField (f : Field) (s : State) : Run Unit :=
  (cfgGet f s).andThen fun v s => .ok () (s.setResult [v])

/-- SET_MODULATION (46_config.md R304). -/
def execSetModulation (m : Byte) (s : State) : Host.Outcome State Fault Refusal :=
  gated .setModulation s fun s =>
  (checkAtMost m 1#8 s).andThen fun _ s => cfgSet .mod m s

/-- GET_MODULATION (46_config.md R305). -/
def execGetModulation (s : State) : Host.Outcome State Fault Refusal :=
  gated .getModulation s fun s => getField .mod s

/-- SET_PROTECT_START (46_config.md R306). Every byte is legal. -/
def execSetProtectStart (p : Byte) (s : State) : Host.Outcome State Fault Refusal :=
  gated .setProtectStart s fun s => cfgSet .auth0 p s

/-- GET_PROTECT_START (46_config.md R307). -/
def execGetProtectStart (s : State) : Host.Outcome State Fault Refusal :=
  gated .getProtectStart s fun s => getField .auth0 s

/-- SET_ACCESS (46_config.md R308): the selector is checked before the value. -/
def execSetAccess (which enable : Byte) (s : State) : Host.Outcome State Fault Refusal :=
  gated .setAccess s fun s =>
  match accessField which with
  | none => .raised .invalidParameter s
  | some f => (checkAtMost enable 1#8 s).andThen fun _ s => cfgSet f enable s

/-- GET_ACCESS (46_config.md R309). -/
def execGetAccess (which : Byte) (s : State) : Host.Outcome State Fault Refusal :=
  gated .getAccess s fun s =>
  match accessField which with
  | none => .raised .invalidParameter s
  | some f => getField f s

/-- SET_AUTH_LIMIT (46_config.md R310). -/
def execSetAuthLimit (l : Byte) (s : State) : Host.Outcome State Fault Refusal :=
  gated .setAuthLimit s fun s =>
  (checkAtMost l 7#8 s).andThen fun _ s => cfgSet .authlim l s

/-- GET_AUTH_LIMIT (46_config.md R311). -/
def execGetAuthLimit (s : State) : Host.Outcome State Fault Refusal :=
  gated .getAuthLimit s fun s => getField .authlim s

/-- SET_VCTID (46_config.md R312). Every byte is legal. -/
def execSetVctid (v : Byte) (s : State) : Host.Outcome State Fault Refusal :=
  gated .setVctid s fun s => cfgSet .vctid v s

/-- GET_VCTID (46_config.md R313). -/
def execGetVctid (s : State) : Host.Outcome State Fault Refusal :=
  gated .getVctid s fun s => getField .vctid s

end Sys2Proof.Machine
end

