-- ==== Sys2Proof/Machine/MemoryCommands.lean ====
section
/-! DEFINITION. The version and memory commands (44_memory_ops.md). -/

namespace Sys2Proof.Machine

/-- END_PAGE inferred from the storage byte of the version record; any other byte leaves it (44_memory_ops.md R230). -/
def inferEndPage (storage : Byte) (old : Byte) : Byte :=
  if storage = storage20 then endPage20 else if storage = storage41 then endPage41 else old

/-- GET_VERSION (44_memory_ops.md R230). -/
def execGetVersion (s : State) : Host.Outcome State Fault Refusal :=
  gated .getVersion s fun s =>
  (transactData [s.params.wireOp.getVersion] versionBytes s).andThen fun d s =>
  .ok () { s.setResult d with endPage := inferEndPage (d.getD 6 0#8) s.endPage }

/-- READ_PAGE (44_memory_ops.md R231). -/
def execReadPage (p : Byte) (s : State) : Host.Outcome State Fault Refusal :=
  gated .readPage s fun s =>
  (readPageRaw p s).andThen fun d s => .ok () (s.setResult (d.take 4))

/-- READ_FOUR_PAGES (44_memory_ops.md R232). -/
def execReadFourPages (p : Byte) (s : State) : Host.Outcome State Fault Refusal :=
  gated .readFourPages s fun s =>
  (readPageRaw p s).andThen fun d s => .ok () (s.setResult d)

/-- The number of pages of a FAST_READ, computed without 8-bit wrap (44_memory_ops.md R233). -/
def pageCount (start stop : Byte) : Nat := stop.toNat - start.toNat + 1

/-- The three operand checks of FAST_READ, in order (44_memory_ops.md R233). -/
def checkFastRead (start stop : Byte) (cap : Word16) (s : State) : Run Unit :=
  if stop < start then .raised .invalidRange s
  else if fastReadMaxPages < pageCount start stop then .raised .rangeTooLarge s
  else if cap.toNat < 4 * pageCount start stop then .raised .bufferTooSmall s
  else .ok () s

/-- FAST_READ (44_memory_ops.md R233). -/
def execFastRead (start stop : Byte) (cap : Word16) (s : State) : Host.Outcome State Fault Refusal :=
  gated .fastRead s fun s =>
  (checkFastRead start stop cap s).andThen fun _ s =>
  (transactData [s.params.wireOp.fastRead, start, stop] (4 * pageCount start stop) s).andThen fun d s =>
  .ok () (s.setResult d)

/-- WRITE_PAGE (44_memory_ops.md R234). -/
def execWritePage (p : Byte) (d : Quad) (s : State) : Host.Outcome State Fault Refusal :=
  gated .writePage s fun s => writePageRaw p (quadBytes d) s

/-- COMP_WRITE (44_memory_ops.md R235): the second frame is sent only after the first is acknowledged. -/
def execCompWrite (p : Byte) (d : Quad) (s : State) : Host.Outcome State Fault Refusal :=
  gated .compWrite s fun s =>
  (transactAck [s.params.wireOp.compWrite, p] s).andThen fun _ s =>
  transactAck (quadBytes d ++ zeros 12) s

/-- The serial number within the first 16 bytes: bytes 0 to 2, then 4 to 7 (44_memory_ops.md R236). -/
def serialOf (d : List Byte) : List Byte := d.take 3 ++ (d.drop 4).take 4

/-- READ_SERIAL (44_memory_ops.md R236). -/
def execReadSerial (s : State) : Host.Outcome State Fault Refusal :=
  gated .readSerial s fun s =>
  (readPageRaw s.params.serialPage s).andThen fun d s => .ok () (s.setResult (serialOf d))

/-- OTP_READ (44_memory_ops.md R237). -/
def execOtpRead (s : State) : Host.Outcome State Fault Refusal :=
  gated .otpRead s fun s =>
  (readPageRaw s.params.otpPage s).andThen fun d s => .ok () (s.setResult (d.take 4))

/-- OTP_WRITE (44_memory_ops.md R238). -/
def execOtpWrite (d : Quad) (s : State) : Host.Outcome State Fault Refusal :=
  gated .otpWrite s fun s => writePageRaw s.params.otpPage (quadBytes d) s

/-- READ_SIGNATURE (44_memory_ops.md R239). -/
def execReadSignature (s : State) : Host.Outcome State Fault Refusal :=
  gated .readSignature s fun s =>
  (transactData [s.params.wireOp.readSig, s.params.wireOp.readSigAddr] signatureBytes s).andThen fun d s =>
  .ok () (s.setResult d)

end Sys2Proof.Machine
end

