-- ==== Sys2Proof/Machine/Selection.lean ====
section
/-! DEFINITION. The selection commands (43_selection.md): REQUEST, WAKE_UP, HALT, ANTICOLL_CL1, SELECT_CL1, ANTICOLL_CL2,
SELECT_CL2. -/

namespace Sys2Proof.Machine

/-- SEL_STATE <- NOT_SELECTED (10_state.md R35). -/
def State.deselect (s : State) : State := { s with selState := .notSelected }

/-- DTYPE <- INVALID (10_state.md R33). -/
def State.invalidate (s : State) : State := { s with dtype := .invalid }

/-- The shared body of REQUEST and WAKE_UP: send one short frame, accept only the Ultralight ATQA, and write DTYPE on
every outcome (43_selection.md R200, R201). -/
def requestTag (op : Byte) (s : State) : Run Unit :=
  (((transact [op] 2 s).andThen fun rx s =>
    (checkLen rx 2 s).andThen fun _ s =>
    checkAtqa rx s).onRaise State.invalidate).andThen fun _ s =>
  let s : State := { s with dtype := .ultralight }
  .ok () (s.setResult [(tagTypeCode s.dtype).setWidth 8])

/-- REQUEST (43_selection.md R200). -/
def execRequest (s : State) : Host.Outcome State Fault Refusal :=
  gated .request s fun s => requestTag s.params.wireOp.reqa s.deselect

/-- WAKE_UP (43_selection.md R201): the delay comes after the gate and before the frame. -/
def execWakeUp (s : State) : Host.Outcome State Fault Refusal :=
  gated .wakeUp s fun s => requestTag s.params.wireOp.wupa (delayMs s.params.wupaDelayMs s.deselect)

/-- The HLTA frame, with its CRC only when HALT_APPEND_CRC says so (43_selection.md R202). -/
def haltFrame (s : State) : Run (List Byte) :=
  if s.params.haltAppendCrc then withCrc [s.params.wireOp.hlta0, s.params.wireOp.hlta1] s
  else .ok [s.params.wireOp.hlta0, s.params.wireOp.hlta1] s

/-- HALT (43_selection.md R202): the response is not examined. -/
def execHalt (s : State) : Host.Outcome State Fault Refusal :=
  gated .halt s fun s =>
  (haltFrame s.deselect).andThen fun tx s =>
  (transact tx 1 s).andThen fun _ s =>
  .ok () s

/-- The shared body of the two anti-collision commands (43_selection.md R203, R205). -/
def anticollision (op0 op1 : Byte) (s : State) : Run Unit :=
  (transact [op0, op1] 5 s).andThen fun rx s =>
  (checkLen rx 5 s).andThen fun _ s =>
  (checkBcc rx s).andThen fun _ s =>
  .ok () (s.setResult (rx.take 4))

/-- ANTICOLL_CL1 (43_selection.md R203). -/
def execAnticollCl1 (s : State) : Host.Outcome State Fault Refusal :=
  gated .anticollCl1 s fun s => anticollision s.params.wireOp.anticollCl1First s.params.wireOp.anticollCl1Second s

/-- ANTICOLL_CL2 (43_selection.md R205). -/
def execAnticollCl2 (s : State) : Host.Outcome State Fault Refusal :=
  gated .anticollCl2 s fun s =>
  (checkCascade .cl1Done s).andThen fun _ s =>
  anticollision s.params.wireOp.anticollCl2First s.params.wireOp.anticollCl2Second s

/-- The bytes of a SELECT frame before its CRC: the two opcode bytes, the id and the check byte the block computes
(30_encoding.md R92, 43_selection.md R204). -/
def selectPayload (op0 op1 : Byte) (id : Quad) : List Byte := [op0, op1] ++ quadBytes id ++ [bcc id]

/-- The shared body of the two SELECT commands: SEL_STATE is written on every outcome (43_selection.md R204, R206). -/
def selectLevel (op0 op1 : Byte) (id : Quad) (sak : Byte) (done : SelState) (s : State) : Run Unit :=
  ((withCrc (selectPayload op0 op1 id) s).andThen fun tx s =>
    (transact tx 1 s).andThen fun rx s =>
    (checkLen rx 1 s).andThen fun _ s =>
    (checkSak rx sak s).andThen fun _ s =>
    .ok () (({ s with selState := done } : State).setResult rx)).onRaise State.deselect

/-- SELECT_CL1 (43_selection.md R204). -/
def execSelectCl1 (id : Quad) (s : State) : Host.Outcome State Fault Refusal :=
  gated .selectCl1 s fun s =>
  selectLevel s.params.wireOp.selectCl1First s.params.wireOp.selectCl1Second id sakCl1 .cl1Done s

/-- SELECT_CL2 (43_selection.md R206). The cascade check writes nothing. -/
def execSelectCl2 (id : Quad) (s : State) : Host.Outcome State Fault Refusal :=
  gated .selectCl2 s fun s =>
  (checkCascade .cl1Done s).andThen fun _ s =>
  selectLevel s.params.wireOp.selectCl2First s.params.wireOp.selectCl2Second id sakCl2 .cl2Done s

end Sys2Proof.Machine
end

