-- ==== Sys2Proof/Machine/Session.lean ====
section
/-! DEFINITION. The session commands (42_session.md): INIT, DEINIT, INFO, SET_STORAGE, GET_STORAGE. -/

namespace Sys2Proof.Machine

/-- The first collaborator that COLLAB_PRESENT says is missing, in the order INIT checks them (42_session.md R180). -/
def missingCollaborator (present : BitVec 5) : Option CmdOutcome :=
  if present.getLsbD 0 = false then some .missingDebugSink
  else if present.getLsbD 1 = false then some .missingInit
  else if present.getLsbD 2 = false then some .missingDeinit
  else if present.getLsbD 3 = false then some .missingTransceiver
  else if present.getLsbD 4 = false then some .missingDelay
  else none

/-- The session registers of a successful INIT (42_session.md R180, 70_reset_and_hazards.md R383). -/
def State.initialised (s : State) : State :=
  { s with initFlag := true, dtype := .invalid, endPage := endPageUnknown, selState := .notSelected }

/-- INIT (42_session.md R180). Not gated; every failure clears INIT_FLAG. -/
def execInit (s : State) : Host.Outcome State Fault Refusal :=
  .next <|
    match missingCollaborator s.collabPresent with
    | some o => ({ s with initFlag := false } : State).ended (some .init) o
    | none =>
      match rfInit s with
      | (st, s) =>
        if st ≠ 0 then ({ s with initFlag := false } : State).ended (some .init) .operationFailed
        else s.initialised.ended (some .init) .ok

/-- DEINIT (42_session.md R181). -/
def execDeinit (s : State) : Host.Outcome State Fault Refusal :=
  gated .deinit s fun s =>
  match rfDeinit s with
  | (st, s) => if st ≠ 0 then .raised .operationFailed s else .ok () { s with initFlag := false }

/-- INFO (42_session.md R182). Not gated. The record has at most 60 bytes (00_scope.md R11, D28; log entry 12). -/
def execInfo (s : State) : Host.Outcome State Fault Refusal :=
  finish .info (.ok () (s.setResult (s.params.infoRecord.take 60)))

/-- SET_STORAGE (42_session.md R183). Every byte is accepted. -/
def execSetStorage (e : Byte) (s : State) : Host.Outcome State Fault Refusal :=
  gated .setStorage s fun s => .ok () { s with endPage := e }

/-- GET_STORAGE (42_session.md R184). -/
def execGetStorage (s : State) : Host.Outcome State Fault Refusal :=
  gated .getStorage s fun s => .ok () (s.setResult [s.endPage])

end Sys2Proof.Machine
end

