-- ==== Sys2Proof/Machine/Dispatch.lean ====
section
/-! DEFINITION. The dispatch: one arm per host command (30_encoding.md R82). -/

namespace Sys2Proof.Machine

def exec (i : Instr) (s : State) : Host.Outcome State Fault Refusal :=
  match i with
  -- 42_session.md
  | .init => Sys2Proof.Machine.execInit s
  | .deinit => Sys2Proof.Machine.execDeinit s
  | .info => Sys2Proof.Machine.execInfo s
  | .setStorage e => Sys2Proof.Machine.execSetStorage e s
  | .getStorage => Sys2Proof.Machine.execGetStorage s
  -- 40_crc.md
  | .crc16 data => Sys2Proof.Machine.execCrc16 data s
  | .crcCheck data => Sys2Proof.Machine.execCrcCheck data s
  -- 43_selection.md
  | .request => Sys2Proof.Machine.execRequest s
  | .wakeUp => Sys2Proof.Machine.execWakeUp s
  | .halt => Sys2Proof.Machine.execHalt s
  | .anticollCl1 => Sys2Proof.Machine.execAnticollCl1 s
  | .selectCl1 id => Sys2Proof.Machine.execSelectCl1 id s
  | .anticollCl2 => Sys2Proof.Machine.execAnticollCl2 s
  | .selectCl2 id => Sys2Proof.Machine.execSelectCl2 id s
  -- 44_memory_ops.md
  | .getVersion => Sys2Proof.Machine.execGetVersion s
  | .readPage p => Sys2Proof.Machine.execReadPage p s
  | .readFourPages p => Sys2Proof.Machine.execReadFourPages p s
  | .fastRead start stop cap => Sys2Proof.Machine.execFastRead start stop cap s
  | .writePage p d => Sys2Proof.Machine.execWritePage p d s
  | .compWrite p d => Sys2Proof.Machine.execCompWrite p d s
  | .readSerial => Sys2Proof.Machine.execReadSerial s
  | .otpRead => Sys2Proof.Machine.execOtpRead s
  | .otpWrite d => Sys2Proof.Machine.execOtpWrite d s
  | .readSignature => Sys2Proof.Machine.execReadSignature s
  -- 45_counter_auth.md
  | .readCounter a => Sys2Proof.Machine.execReadCounter a s
  | .incrementCounter a v => Sys2Proof.Machine.execIncrementCounter a v s
  | .checkTearing a => Sys2Proof.Machine.execCheckTearing a s
  | .authenticate pwd k0 k1 => Sys2Proof.Machine.execAuthenticate pwd k0 k1 s
  | .setPasswordPack pwd k0 k1 => Sys2Proof.Machine.execSetPasswordPack pwd k0 k1 s
  -- 46_config.md
  | .setLock l0 l1 l2 l3 l4 => Sys2Proof.Machine.execSetLock l0 l1 l2 l3 l4 s
  | .getLock => Sys2Proof.Machine.execGetLock s
  | .setModulation m => Sys2Proof.Machine.execSetModulation m s
  | .getModulation => Sys2Proof.Machine.execGetModulation s
  | .setProtectStart p => Sys2Proof.Machine.execSetProtectStart p s
  | .getProtectStart => Sys2Proof.Machine.execGetProtectStart s
  | .setAccess which enable => Sys2Proof.Machine.execSetAccess which enable s
  | .getAccess which => Sys2Proof.Machine.execGetAccess which s
  | .setAuthLimit l => Sys2Proof.Machine.execSetAuthLimit l s
  | .getAuthLimit => Sys2Proof.Machine.execGetAuthLimit s
  | .setVctid v => Sys2Proof.Machine.execSetVctid v s
  | .getVctid => Sys2Proof.Machine.execGetVctid s

end Sys2Proof.Machine
end

