-- ==== Sys2Proof/Machine/Step.lean ====
section
/-! DEFINITION. One step of the block: it accepts the next host command and runs it to completion (10_state.md R43,
70_reset_and_hazards.md R395). -/

namespace Sys2Proof.Machine

/-- One step. With no command pending the block waits and nothing changes (70_reset_and_hazards.md R381). -/
def step (s : State) : Host.Outcome State Fault Refusal :=
  match s.commands with
  | [] => .next s
  | c :: rest =>
    match decode c with
    | .ok i => exec i (s.accepted rest)
    | .error e => endIllegal (commandOfError e) (s.accepted rest)

/-- The state with a table word's descriptor placed where step takes its next command. -/
def State.withFetchWord (s : State) (nbits w : Nat) : State := s.issue (tableDescriptor nbits w)

end Sys2Proof.Machine
end

