-- ==== Sys2Proof/Machine/HostSide.lean ====
section
/-! DEFINITION. The host's two pseudo-commands, as sequences of commands whose operands come from RESULT (30_encoding.md
R88). They are no part of the block: they run its commands one after the other. -/

namespace Sys2Proof.Machine

/-- What a host holds while it runs a sequence: the block, and the id bytes it has gathered so far. -/
abbrev HostRun := Host.Outcome (State × List Byte) Fault Refusal

/-- The first command of a host sequence, with no id bytes yet. -/
def hostStart (r : Host.Outcome State Fault Refusal) : HostRun :=
  match r with
  | .next s => .next (s, [])
  | .fault f => .fault f
  | .refused m => .refused m

/-- The next command of a host sequence: it is issued only if the previous one ended Ok, and where it ends Ok itself the
host keeps the bytes `keep` takes from it (30_encoding.md R88; DESIGN CHOICE, log entry 16: after a failure it still holds the
bytes gathered before). -/
def ifOk (r : HostRun) (issue : State → Host.Outcome State Fault Refusal) (keep : State → List Byte) : HostRun :=
  match r with
  | .next (s, id) =>
    if s.outcome = some .ok then
      match issue s with
      | .next t => .next (t, if t.outcome = some .ok then id ++ keep t else id)
      | .fault f => .fault f
      | .refused m => .refused m
    else .next (s, id)
  | .fault f => .fault f
  | .refused m => .refused m

/-- RESULT[0..3] as the four bytes of an operand (30_encoding.md R88). -/
def resultQuad (s : State) : Quad :=
  ⟨s.resultBytes.getD 0 0#8, s.resultBytes.getD 1 0#8, s.resultBytes.getD 2 0#8, s.resultBytes.getD 3 0#8⟩

/-- The sequence after its first command: both cascade levels, each SELECT with the id its anti-collision returned. The id
bytes gathered are the CL1 id followed by the CL2 id (30_encoding.md R88). -/
def cascade (r : HostRun) : HostRun :=
  let r := ifOk r (fun s => exec .anticollCl1 s) (fun t => quadBytes (resultQuad t))
  let r := ifOk r (fun s => exec (.selectCl1 (resultQuad s)) s) (fun _ => [])
  let r := ifOk r (fun s => exec .anticollCl2 s) (fun t => quadBytes (resultQuad t))
  ifOk r (fun s => exec (.selectCl2 (resultQuad s)) s) (fun _ => [])

/-- SELECT_CARD (30_encoding.md R88). -/
def selectCard (s : State) : HostRun := cascade (hostStart (exec .request s))

/-- WAKE_SELECT_CARD (30_encoding.md R88). -/
def wakeSelectCard (s : State) : HostRun := cascade (hostStart (exec .wakeUp s))

end Sys2Proof.Machine
end

