-- ==== Sys2Proof/Safety.lean ====
section
/-! DEFINITION. The terms the claims are stated in: what the transceiver answers, the state after an exchange, which frames
exist, what a command refuses before any exchange, which session registers a command writes, and the invariant of the
block. -/

namespace Sys2Proof.Machine

/-! ### Answers and exchanges -/

/-- The transceiver's next answer is the response rx with no transport failure; rx is no longer than it may be (00_scope.md
R16). -/
def State.replies (s : State) (rx : List Byte) (rest : List Answer) : Prop :=
  s.exchangeAnswers = .returns 0 rx :: rest ∧ rx.length ≤ s.params.rxLenMax.toNat

/-- The transceiver's next two answers are the responses rx1 and rx2. -/
def State.repliesTwice (s : State) (rx1 rx2 : List Byte) (rest : List Answer) : Prop :=
  s.exchangeAnswers = .returns 0 rx1 :: .returns 0 rx2 :: rest ∧
    rx1.length ≤ s.params.rxLenMax.toNat ∧ rx2.length ≤ s.params.rxLenMax.toNat

/-- The state after one exchange of the frame tx at capacity cap, answered with rx: the buffers hold the two frames, the
event is recorded, the answer is used up (00_scope.md R16, 10_state.md R37, R38). -/
def State.exchanged (s : State) (tx : List Byte) (cap : Nat) (rx : List Byte) (rest : List Answer) : State :=
  { ((s.loadFrame tx).emit (.exchange tx cap)).loadResponse rx with exchangeAnswers := rest }

/-- The state after one exchange of a frame that carries the CRC of its payload: CRC_REG holds that CRC (10_state.md R36). -/
def State.exchangedCrc (s : State) (payload : List Byte) (cap : Nat) (rx : List Byte) (rest : List Answer) : State :=
  (s.computeCrc payload).exchanged (frameWithCrc payload) cap rx rest

/-- The state after a data exchange whose response d ++ LE16(crc16(d)) passed its checks: CRC_REG holds the CRC of d
(41_frame_codec.md R145). -/
def State.gotData (s : State) (payload : List Byte) (d : List Byte) (rest : List Answer) : State :=
  (s.exchangedCrc payload (d.length + 2) (frameWithCrc d) rest).computeCrc d

/-- The state after an acknowledged exchange. -/
def State.gotAck (s : State) (payload : List Byte) (rest : List Answer) : State :=
  s.exchangedCrc payload 1 [0x0A#8] rest

/-- How many of the events are exchanges. -/
def exchangeCount (es : List Event) : Nat :=
  (es.filter fun e => match e with | .exchange _ _ => true | .rfInit | .rfDeinit | .delayMs _ => false).length

/-! ### Operand checks and first frames -/

/-- The usage error a command ends with after the gate and before any exchange, none where its operands are legal
(60_exceptions.md R340, R343 step 3). -/
def operandError (s : State) : Instr → Option CmdOutcome
  | .anticollCl2 | .selectCl2 _ =>
    if s.params.enforceCascadeOrder = true ∧ s.selState ≠ .cl1Done then some .sequenceError else none
  | .fastRead start stop cap =>
    if stop.toNat < start.toNat then some .invalidRange
    else if 15 < stop.toNat - start.toNat + 1 then some .rangeTooLarge
    else if cap.toNat < 4 * (stop.toNat - start.toNat + 1) then some .bufferTooSmall
    else none
  | .readCounter a | .incrementCounter a _ | .checkTearing a => if a.toNat ≤ 2 then none else some .invalidAddress
  | .setModulation m => if m.toNat ≤ 1 then none else some .invalidParameter
  | .setAccess which enable => if which.toNat ≤ 1 ∧ enable.toNat ≤ 1 then none else some .invalidParameter
  | .getAccess which => if which.toNat ≤ 1 then none else some .invalidParameter
  | .setAuthLimit l => if l.toNat ≤ 7 then none else some .invalidParameter
  | .crcCheck data => if data.length < 2 then some .invalidResponseLength else none
  | .init | .deinit | .info | .setStorage _ | .getStorage | .crc16 _ => none
  | .request | .wakeUp | .halt | .anticollCl1 | .selectCl1 _ => none
  | .getVersion | .readPage _ | .readFourPages _ | .writePage _ _ | .compWrite _ _ => none
  | .readSerial | .otpRead | .otpWrite _ | .readSignature | .authenticate _ _ _ | .setPasswordPack _ _ _ => none
  | .setLock _ _ _ _ _ | .getLock | .getModulation | .setProtectStart _ | .getProtectStart => none
  | .getAuthLimit | .setVctid _ | .getVctid => none

/-- The first frame a command sends once its operands are legal, and the length of the response it expects (30_encoding.md
R92 to R95); none for a command that makes no exchange. HALT expects no length and offers one byte (43_selection.md
R202). -/
def firstExchange (s : State) (i : Instr) : Option (List Byte × Nat) :=
  let op := s.params.wireOp
  let readAt (p : Byte) : Option (List Byte × Nat) := some (frameWithCrc [op.read, p], 18)
  let writeAt (p : Byte) (d : List Byte) : Option (List Byte × Nat) := some (frameWithCrc (op.write :: p :: d), 1)
  let field (f : Field) : Option (List Byte × Nat) := readAt (s.endPage - (cfgFieldOf s.params f).offset)
  match i with
  | .init | .deinit | .info | .setStorage _ | .getStorage | .crc16 _ | .crcCheck _ => none
  | .request => some ([op.reqa], 2)
  | .wakeUp => some ([op.wupa], 2)
  | .halt =>
    some (if s.params.haltAppendCrc then frameWithCrc [op.hlta0, op.hlta1] else [op.hlta0, op.hlta1], 1)
  | .anticollCl1 => some ([op.anticollCl1First, op.anticollCl1Second], 5)
  | .anticollCl2 => some ([op.anticollCl2First, op.anticollCl2Second], 5)
  | .selectCl1 id => some (frameWithCrc ([op.selectCl1First, op.selectCl1Second] ++ quadBytes id ++ [bcc id]), 1)
  | .selectCl2 id => some (frameWithCrc ([op.selectCl2First, op.selectCl2Second] ++ quadBytes id ++ [bcc id]), 1)
  | .getVersion => some (frameWithCrc [op.getVersion], 10)
  | .readPage p => readAt p
  | .readFourPages p => readAt p
  | .readSerial => readAt s.params.serialPage
  | .otpRead => readAt s.params.otpPage
  | .fastRead start stop _ =>
    some (frameWithCrc [op.fastRead, start, stop], 4 * (stop.toNat - start.toNat + 1) + 2)
  | .writePage p d => writeAt p (quadBytes d)
  | .otpWrite d => writeAt s.params.otpPage (quadBytes d)
  | .compWrite p _ => some (frameWithCrc [op.compWrite, p], 1)
  | .readSignature => some (frameWithCrc [op.readSig, op.readSigAddr], 34)
  | .readCounter a => some (frameWithCrc [op.readCnt, a], 5)
  | .incrementCounter a v => some (frameWithCrc ([op.incrCnt, a] ++ le24 v ++ [0x00#8]), 1)
  | .checkTearing a => some (frameWithCrc [op.checkTearing, a], 3)
  | .authenticate pwd _ _ => some (frameWithCrc (op.pwdAuth :: quadBytes pwd), 4)
  | .setPasswordPack pwd _ _ => writeAt (s.endPage - 1#8) (quadBytes pwd)
  | .setLock l0 l1 _ _ _ => writeAt s.params.lockLowPage [0x00#8, 0x00#8, l0, l1]
  | .getLock => readAt s.params.lockLowPage
  | .setModulation _ | .getModulation => field .mod
  | .setProtectStart _ | .getProtectStart => field .auth0
  | .setAccess which _ | .getAccess which => field (if which = 0x00#8 then .prot else .cfglck)
  | .setAuthLimit _ | .getAuthLimit => field .authlim
  | .setVctid _ | .getVctid => field .vctid

/-- The response of the command's first exchange carries a CRC (30_encoding.md R91: shape R_DATA). -/
def firstResponseHasCrc : Instr → Bool
  | .getVersion | .readPage _ | .readFourPages _ | .fastRead _ _ _ | .readSerial | .otpRead | .readSignature => true
  | .readCounter _ | .checkTearing _ | .authenticate _ _ _ | .getLock => true
  | .setModulation _ | .getModulation | .setProtectStart _ | .getProtectStart | .setAccess _ _ | .getAccess _ => true
  | .setAuthLimit _ | .getAuthLimit | .setVctid _ | .getVctid => true
  | .init | .deinit | .info | .setStorage _ | .getStorage | .crc16 _ | .crcCheck _ => false
  | .request | .wakeUp | .halt | .anticollCl1 | .selectCl1 _ | .anticollCl2 | .selectCl2 _ => false
  | .writePage _ _ | .compWrite _ _ | .otpWrite _ | .incrementCounter _ _ | .setPasswordPack _ _ _ => false
  | .setLock _ _ _ _ _ => false

/-- The response of the command's first exchange is an ACK (30_encoding.md R91: shape R_ACK). -/
def firstResponseIsAck : Instr → Bool
  | .writePage _ _ | .compWrite _ _ | .otpWrite _ | .incrementCounter _ _ | .setPasswordPack _ _ _ => true
  | .setLock _ _ _ _ _ => true
  | .init | .deinit | .info | .setStorage _ | .getStorage | .crc16 _ | .crcCheck _ => false
  | .request | .wakeUp | .halt | .anticollCl1 | .selectCl1 _ | .anticollCl2 | .selectCl2 _ => false
  | .getVersion | .readPage _ | .readFourPages _ | .fastRead _ _ _ | .readSerial | .otpRead | .readSignature => false
  | .readCounter _ | .checkTearing _ | .authenticate _ _ _ | .getLock => false
  | .setModulation _ | .getModulation | .setProtectStart _ | .getProtectStart | .setAccess _ _ | .getAccess _ => false
  | .setAuthLimit _ | .getAuthLimit | .setVctid _ | .getVctid => false

/-- The events a command makes before its first exchange: WAKE_UP's delay (43_selection.md R201). -/
def eventsBefore (s : State) : Instr → List Event
  | .wakeUp => [.delayMs s.params.wupaDelayMs]
  | _ => []

/-- The session registers as a failure after the operand checks leaves them (10_state.md R46). -/
def State.afterFailure (s : State) : Instr → State
  | .request | .wakeUp => { s with dtype := .invalid, selState := .notSelected }
  | .halt | .selectCl1 _ | .selectCl2 _ => { s with selState := .notSelected }
  | _ => s

/-- What is wrong with the content of a first response of the right length and CRC, none where it is accepted (41_frame_codec.md
R146 to R149, R156, 45_counter_auth.md R273). -/
def contentError (rx : List Byte) : Instr → Option CmdOutcome
  | .request | .wakeUp => if rx = [0x44#8, 0x00#8] then none else some .typeInvalid
  | .anticollCl1 | .anticollCl2 =>
    if rx.getD 4 0#8 = rx.getD 0 0#8 ^^^ rx.getD 1 0#8 ^^^ rx.getD 2 0#8 ^^^ rx.getD 3 0#8 then none
    else some .checksumError
  | .selectCl1 _ => if rx = [0x04#8] then none else some .sakError
  | .selectCl2 _ => if rx = [0x00#8] then none else some .sakError
  | .authenticate _ k0 k1 => if rx.take 2 = [k0, k1] then none else some .packMismatch
  | i => if firstResponseIsAck i = true ∧ rx ≠ [0x0A#8] then some .ackError else none

/-- The outcome a first response rx with no transport failure raises, in the order of the checks: length, CRC, content; none
where every check passes (41_frame_codec.md R152, 60_exceptions.md R343 step 4). HALT's response is not examined
(43_selection.md R202). -/
def responseError (cap : Nat) (rx : List Byte) (i : Instr) : Option CmdOutcome :=
  if i = .halt then none
  else if rx.length ≠ cap then some .invalidResponseLength
  else if firstResponseHasCrc i = true ∧ rx.drop (cap - 2) ≠ le16 (crc16 (rx.take (cap - 2))) then some .checksumError
  else contentError rx i

/-- The state with the working registers cleared: everything the spec calls observable (10_state.md R36 to R38). -/
def State.observed (s : State) : State :=
  { s with
    crcReg := 0#16, txBuf := Vector.replicate 18 0#8, txLen := 0#8, rxBuf := Vector.replicate 255 0#8, rxLen := 0#8 }

/-- The observable state after a command whose first exchange failed with outcome o: one frame was sent and answered, the
failure-path writes were made, RESULT is kept (41_frame_codec.md R153, 60_exceptions.md R344). -/
def failedAtFirst (s : State) (i : Instr) (tx : List Byte) (cap : Nat) (rest : List Answer) (o : CmdOutcome) : State :=
  ({ s.afterFailure i with
      trace := s.trace ++ eventsBefore s i ++ [.exchange tx cap], exchangeAnswers := rest } : State).observed.ended
    (some i.opsel) o

/-- The two payloads of a command that sends two write-class frames (30_encoding.md R95, 70_reset_and_hazards.md R388); none
for any other command. -/
def twoWrites (s : State) : Instr → Option (List Byte × List Byte)
  | .compWrite p d => some ([s.params.wireOp.compWrite, p], quadBytes d ++ zeros 12)
  | .setPasswordPack pwd k0 k1 =>
    some ([s.params.wireOp.write, s.endPage - 1#8] ++ quadBytes pwd,
      [s.params.wireOp.write, s.endPage, k0, k1, 0x00#8, 0x00#8])
  | .setLock l0 l1 l2 l3 l4 =>
    some ([s.params.wireOp.write, s.params.lockLowPage, 0x00#8, 0x00#8, l0, l1],
      [s.params.wireOp.write, s.endPage - 4#8, l2, l3, l4, 0x00#8])
  | _ => none

/-- The field a configuration SET writes and the value it gives it, its operands legal (46_config.md R304, R306, R308, R310,
R312); none for any other command. -/
def configWrite : Instr → Option (Field × Byte)
  | .setModulation m => some (.mod, m)
  | .setProtectStart p => some (.auth0, p)
  | .setAccess which enable => some (if which = 0x00#8 then .prot else .cfglck, enable)
  | .setAuthLimit l => some (.authlim, l)
  | .setVctid v => some (.vctid, v)
  | _ => none

/-- The outcome of an acknowledged exchange whose answer is not the ACK: transport, then length, then content
(41_frame_codec.md R143, R144, R146, R152). -/
def ackFailureOutcome (st : Nat) (rx : List Byte) : CmdOutcome :=
  if st ≠ 0 then .transportFailed else if rx.length ≠ 1 then .invalidResponseLength else .ackError

/-- The OPSEL values that select no command, as 30_encoding.md R85 lists them. -/
def reservedOpselValue (b : Byte) : Prop :=
  (0x05 ≤ b.toNat ∧ b.toNat ≤ 0x07) ∨ (0x0A ≤ b.toNat ∧ b.toNat ≤ 0x0F) ∨ (0x17 ≤ b.toNat ∧ b.toNat ≤ 0x1F) ∨
  (0x2A ≤ b.toNat ∧ b.toNat ≤ 0x2F) ∨ (0x35 ≤ b.toNat ∧ b.toNat ≤ 0x3F) ∨ 0x4C ≤ b.toNat

/-! ### The wire command set -/

/-- The frames of the wire command set (30_encoding.md R92 to R96), over the opcodes of the parameters. -/
inductive WireFrame (p : Params) : List Byte → Prop where
  | reqa : WireFrame p [p.wireOp.reqa]
  | wupa : WireFrame p [p.wireOp.wupa]
  | hlta : p.haltAppendCrc = false → WireFrame p [p.wireOp.hlta0, p.wireOp.hlta1]
  | hltaCrc : p.haltAppendCrc = true → WireFrame p (frameWithCrc [p.wireOp.hlta0, p.wireOp.hlta1])
  | anticollCl1 : WireFrame p [p.wireOp.anticollCl1First, p.wireOp.anticollCl1Second]
  | anticollCl2 : WireFrame p [p.wireOp.anticollCl2First, p.wireOp.anticollCl2Second]
  | selectCl1 (id : Quad) :
    WireFrame p (frameWithCrc ([p.wireOp.selectCl1First, p.wireOp.selectCl1Second] ++ quadBytes id ++ [bcc id]))
  | selectCl2 (id : Quad) :
    WireFrame p (frameWithCrc ([p.wireOp.selectCl2First, p.wireOp.selectCl2Second] ++ quadBytes id ++ [bcc id]))
  | getVersion : WireFrame p (frameWithCrc [p.wireOp.getVersion])
  | read (page : Byte) : WireFrame p (frameWithCrc [p.wireOp.read, page])
  | fastRead (start stop : Byte) : WireFrame p (frameWithCrc [p.wireOp.fastRead, start, stop])
  | write (page : Byte) (d : Quad) : WireFrame p (frameWithCrc ([p.wireOp.write, page] ++ quadBytes d))
  | compWrite (page : Byte) : WireFrame p (frameWithCrc [p.wireOp.compWrite, page])
  | compWriteData (d : Quad) : WireFrame p (frameWithCrc (quadBytes d ++ zeros 12))
  | readCnt (a : Byte) : WireFrame p (frameWithCrc [p.wireOp.readCnt, a])
  | incrCnt (a v0 v1 v2 : Byte) : WireFrame p (frameWithCrc [p.wireOp.incrCnt, a, v0, v1, v2, 0x00#8])
  | checkTearing (a : Byte) : WireFrame p (frameWithCrc [p.wireOp.checkTearing, a])
  | readSig : WireFrame p (frameWithCrc [p.wireOp.readSig, p.wireOp.readSigAddr])
  | pwdAuth (pwd : Quad) : WireFrame p (frameWithCrc (p.wireOp.pwdAuth :: quadBytes pwd))

/-- Every exchange recorded in the trace sent a frame of the wire command set (30_encoding.md R96). -/
def State.tracesKnownFrames (s : State) : Prop := ∀ tx cap, Event.exchange tx cap ∈ s.trace → WireFrame s.params tx

/-! ### Host sequences -/

/-- The command i completes from s with the state t, and its outcome is Ok. -/
def endsOk (i : Instr) (s t : State) : Prop := exec i s = .next t ∧ t.outcome = some .ok

/-- The command i completes from s with the state t, and its outcome is another one than Ok. -/
def endsNotOk (i : Instr) (s t : State) : Prop := exec i s = .next t ∧ t.outcome ≠ some .ok

/-- What a host sequence with the first command `first` ends with, for every command of it that is the first not to end Ok,
and for the last one however it ends: the state that command leaves, and the id bytes gathered before it (30_encoding.md
R88; the bytes after a failure are log entry 16, DESIGN CHOICE). -/
def runsOnlyAfterOk (first : Instr) (s : State) (run : HostRun) : Prop :=
  (∀ t, endsNotOk first s t → run = .next (t, [])) ∧
  ∀ s1, endsOk first s s1 →
    (∀ t, endsNotOk .anticollCl1 s1 t → run = .next (t, [])) ∧
    ∀ s2, endsOk .anticollCl1 s1 s2 →
      (∀ t, endsNotOk (.selectCl1 (resultQuad s2)) s2 t → run = .next (t, quadBytes (resultQuad s2))) ∧
      ∀ s3, endsOk (.selectCl1 (resultQuad s2)) s2 s3 →
        (∀ t, endsNotOk .anticollCl2 s3 t → run = .next (t, quadBytes (resultQuad s2))) ∧
        ∀ s4, endsOk .anticollCl2 s3 s4 →
          ∀ t, exec (.selectCl2 (resultQuad s4)) s4 = .next t →
            run = .next (t, quadBytes (resultQuad s2) ++ quadBytes (resultQuad s4))

/-- What a host sequence with the first command `first` ends with when a command of it stops in a fault, the commands before
it having ended Ok: that fault, and no later command runs (30_encoding.md R88, 60_exceptions.md R352). -/
def stopsWithItsCommand (first : Instr) (s : State) (run : HostRun) : Prop :=
  (∀ f, exec first s = .fault f → run = .fault f) ∧
  ∀ s1, endsOk first s s1 →
    (∀ f, exec .anticollCl1 s1 = .fault f → run = .fault f) ∧
    ∀ s2, endsOk .anticollCl1 s1 s2 →
      (∀ f, exec (.selectCl1 (resultQuad s2)) s2 = .fault f → run = .fault f) ∧
      ∀ s3, endsOk (.selectCl1 (resultQuad s2)) s2 s3 →
        (∀ f, exec .anticollCl2 s3 = .fault f → run = .fault f) ∧
        ∀ s4, endsOk .anticollCl2 s3 s4 →
          ∀ f, exec (.selectCl2 (resultQuad s4)) s4 = .fault f → run = .fault f

/-- The exchanges of the two cascade levels, for a tag with the ids id1 and id2 (43_selection.md R203 to R206). -/
def cascadeEvents (p : Params) (id1 id2 : Quad) : List Event :=
  [.exchange [p.wireOp.anticollCl1First, p.wireOp.anticollCl1Second] 5,
    .exchange (frameWithCrc ([p.wireOp.selectCl1First, p.wireOp.selectCl1Second] ++ quadBytes id1 ++ [bcc id1])) 1,
    .exchange [p.wireOp.anticollCl2First, p.wireOp.anticollCl2Second] 5,
    .exchange (frameWithCrc ([p.wireOp.selectCl2First, p.wireOp.selectCl2Second] ++ quadBytes id2 ++ [bcc id2])) 1]

/-- A host sequence selected a tag with the ids id1 and id2: it gathered both, all five commands ended Ok, and the block made
the events given, in order (30_encoding.md R88, 43_selection.md R206). -/
def selectsTag (run : HostRun) (s : State) (id1 id2 : Quad) (rest : List Answer) (events : List Event) : Prop :=
  ∃ t, run = .next (t, quadBytes id1 ++ quadBytes id2) ∧
    t.outcome = some .ok ∧ t.dtype = .ultralight ∧ t.selState = .cl2Done ∧ t.endPage = s.endPage ∧ t.initFlag = true ∧
    t.resultBytes = [0x00#8] ∧ t.exchangeAnswers = rest ∧ t.trace = s.trace ++ events

/-! ### Session registers -/

/-- The four session registers are the same. -/
def sameSession (s t : State) : Prop :=
  t.initFlag = s.initFlag ∧ t.dtype = s.dtype ∧ t.endPage = s.endPage ∧ t.selState = s.selState

/-- Which session registers each command writes, as the table of 10_state.md R46 lists them: s is the state before the
command, t the state after it. -/
def sessionWrites (i : Instr) (s t : State) : Prop :=
  match i with
  | .init =>
    (t.outcome = some .ok → t.initFlag = true ∧ t.dtype = .invalid ∧ t.endPage = 0xFF#8 ∧ t.selState = .notSelected) ∧
    (t.outcome ≠ some .ok → sameSession { s with initFlag := false } t)
  | .deinit =>
    (t.outcome = some .ok → sameSession { s with initFlag := false } t) ∧ (t.outcome ≠ some .ok → sameSession s t)
  | .setStorage e =>
    (t.outcome = some .ok → sameSession { s with endPage := e } t) ∧ (t.outcome ≠ some .ok → sameSession s t)
  | .getVersion =>
    (t.outcome = some .ok → sameSession { s with endPage := 0x13#8 } t ∨ sameSession { s with endPage := 0x28#8 } t ∨
      sameSession s t) ∧ (t.outcome ≠ some .ok → sameSession s t)
  | .request | .wakeUp =>
    (s.initFlag = true → t.outcome = some .ok →
      sameSession { s with dtype := .ultralight, selState := .notSelected } t) ∧
    (s.initFlag = true → t.outcome ≠ some .ok →
      sameSession { s with dtype := .invalid, selState := .notSelected } t) ∧
    (s.initFlag = false → sameSession s t)
  | .halt =>
    (s.initFlag = true → sameSession { s with selState := .notSelected } t) ∧ (s.initFlag = false → sameSession s t)
  | .selectCl1 _ =>
    (s.initFlag = true → t.outcome = some .ok → sameSession { s with selState := .cl1Done } t) ∧
    (s.initFlag = true → t.outcome ≠ some .ok → sameSession { s with selState := .notSelected } t) ∧
    (s.initFlag = false → sameSession s t)
  | .selectCl2 _ =>
    (s.initFlag = true → t.outcome = some .ok → sameSession { s with selState := .cl2Done } t) ∧
    (s.initFlag = true → t.outcome ≠ some .ok → t.outcome ≠ some .sequenceError →
      sameSession { s with selState := .notSelected } t) ∧
    (s.initFlag = true → t.outcome = some .sequenceError → sameSession s t) ∧
    (s.initFlag = false → sameSession s t)
  | _ => sameSession s t

/-! ### The invariant of the block -/

/-- What holds of every state the block reaches: the lengths stay within their buffers and within RX_LEN_MAX (10_state.md
R37, R38, R41); NullHandle is never raised (60_exceptions.md R351); with the default codes STATUS is 0 exactly when no
command has failed last (R342); and before any command has completed every register with a stated power-on value still
holds it (10_state.md R40, 70_reset_and_hazards.md R380). -/
structure State.Inv (s : State) : Prop where
  txLen_le : s.txLen.toNat ≤ 18
  rxLen_le : s.rxLen.toNat ≤ s.params.rxLenMax.toNat
  resultLen_le : s.resultLen.toNat ≤ 60
  no_nullHandle : s.outcome ≠ some .nullHandle
  status_zero : s.params.statusOverrides = [] → (s.status = 0x00#8 ↔ s.outcome = none ∨ s.outcome = some .ok)
  before_first : s.outcome = none →
    s.initFlag = false ∧ s.dtype = .invalid ∧ s.endPage = 0x00#8 ∧ s.selState = .notSelected ∧ s.status = 0x00#8 ∧
      s.resultLen = 0x00#8 ∧ s.trace = []

end Sys2Proof.Machine
end

