-- ==== Sys2Proof/Certificates/Slice0/Obligations.lean ====
section
/-! DEFINITION. The statements for the provers, from the numbered rules of spec/. -/

open Sys2Proof Sys2Proof.Machine

/-! ### Descriptors -/

/-- Decoding the descriptor of a well-formed command gives the command back (30_encoding.md R80 to R84). -/
def Obligations.EncodeThenDecodeIsIdentity : Prop :=
  ∀ i : Instr, i.wf = true → decode (encode i) = .ok i

/-- A legal descriptor is the encoding of the command it decodes to, so no bit of it is dropped and each command has one
descriptor (30_encoding.md R80 to R86). -/
def Obligations.DecodeThenEncodeIsIdentity : Prop :=
  ∀ (c : List Byte) (i : Instr), decode c = .ok i → i.wf = true ∧ encode i = c

/-- A descriptor with a reserved OPSEL, or whose length differs from its format's, ends IllegalCommand before the gate, with
no session register read or written (30_encoding.md R85); by the default codes STATUS is then 0xFF (60_exceptions.md R342).
Which entry of an overridden STATUS_CODE an illegal descriptor takes is the model's choice: the entry of the command its OPSEL
names, or of none (log entry 11, DESIGN CHOICE). -/
def Obligations.IllegalDescriptorEndsIllegalCommand : Prop :=
  ∀ (s : State) (rest : List (List Byte)) (operands : List Byte),
    (∀ b : Byte, reservedOpselValue b → s.commands = (b :: operands) :: rest →
      step s = .next ((s.accepted rest).ended none .illegalCommand)) ∧
    (∀ o : Opsel, operands.length + 1 ≠ formatLength (operands.headD 0x00#8) (formatOf o) →
      s.commands = (opselCode o :: operands) :: rest →
      step s = .next ((s.accepted rest).ended (some o) .illegalCommand)) ∧
    (s.params.statusOverrides = [] → ∀ k, ((s.accepted rest).ended k .illegalCommand).status = 0xFF#8)

/-- Descriptors written out from the formats decode to the commands they stand for (30_encoding.md R81 to R83, R87). -/
def Obligations.WrittenOutDescriptorsDecode : Prop :=
  decode [0x00#8] = .ok .init ∧
  decode [0x08#8, 0x02#8, 0x12#8, 0x34#8] = .ok (.crc16 [0x12#8, 0x34#8]) ∧
  decode [0x14#8, 0x88#8, 0x04#8, 0xA1#8, 0xB2#8] = .ok (.selectCl1 ⟨0x88#8, 0x04#8, 0xA1#8, 0xB2#8⟩) ∧
  decode [0x23#8, 0x00#8, 0x03#8, 0x10#8, 0x01#8] = .ok (.fastRead 0x00#8 0x03#8 0x0110#16) ∧
  decode [0x31#8, 0x02#8, 0x2A#8, 0x0B#8, 0x0C#8, 0x0D#8] = .ok (.incrementCounter 0x02#8 0x0D0C0B2A#32) ∧
  decode [0x40#8, 0x0F#8, 0x00#8, 0x01#8, 0x02#8, 0x03#8] = .ok (.setLock 0x0F#8 0x00#8 0x01#8 0x02#8 0x03#8) ∧
  decode [0x46#8, 0x01#8, 0x00#8] = .ok (.setAccess 0x01#8 0x00#8)

/-- With a legal descriptor at the port, a step accepts it and is the meaning of the command it decodes to; with none, the
block waits (10_state.md R43, 70_reset_and_hazards.md R381). That the pending descriptors are a list in State, one run by each
step, is the model's choice (log entry 1, DESIGN CHOICE). -/
def Obligations.StepRunsTheDecodedCommand : Prop :=
  ∀ s : State,
    (∀ c rest i, s.commands = c :: rest → decode c = .ok i → i.wf = true → step s = exec i (s.accepted rest)) ∧
    (s.commands = [] → step s = .next s)

/-! ### The CRC engine -/

/-- The byte step of R121 is the bit-serial CRC with the reflected polynomial 0x8408, for every register value and byte, and
so over every byte sequence; the ASCII bytes 123456789 give 0xBF05 (40_crc.md R122). -/
def Obligations.CrcByteStepIsBitSerial : Prop :=
  (∀ (w : Word16) (b : Byte), crcStep w b = crcStepBitSerial w b) ∧
  (∀ bytes : List Byte, crc16 bytes = bytes.foldl crcStepBitSerial 0x6363#16) ∧
  crc16 [0x31#8, 0x32#8, 0x33#8, 0x34#8, 0x35#8, 0x36#8, 0x37#8, 0x38#8, 0x39#8] = 0xBF05#16

/-- The CRC follows its payload low byte first, and the CRC of payload and CRC together is zero (40_crc.md R123). -/
def Obligations.CrcResidueIsZero : Prop :=
  ∀ p : List Byte,
    frameWithCrc p = p ++ [(crc16 p).setWidth 8, (crc16 p >>> 8).setWidth 8] ∧ crc16 (frameWithCrc p) = 0x0000#16

/-- The corner cases of crc16: the empty sequence, the seed's own bytes, and two sequences of equal length that differ in one
byte (40_crc.md R124). -/
def Obligations.CrcCornerCases : Prop :=
  crc16 [] = 0x6363#16 ∧ crc16 [0x63#8, 0x63#8] = 0x0000#16 ∧
  ∀ (before after : List Byte) (b c : Byte), b ≠ c → crc16 (before ++ b :: after) ≠ crc16 (before ++ c :: after)

/-- Every frame the encoder builds with a CRC passes CheckCRC (41_frame_codec.md R155, 40_crc.md R123), and no other two
trailing bytes do (41_frame_codec.md R145). The value of CRC_REG after a failed check is the model's reading of 10_state.md R36
(log entry 8, DEDUCED). -/
def Obligations.FramesWithCrcPassCheckCrc : Prop :=
  ∀ (p : List Byte) (s : State),
    (∃ t, withCrc p s = .ok (frameWithCrc p) t ∧ checkCrc (frameWithCrc p) t = .ok () t) ∧
    ∀ c0 c1 : Byte, [c0, c1] ≠ le16 (crc16 p) →
      checkCrc (p ++ [c0, c1]) s = .raised .checksumError (s.computeCrc p)

/-- CRC16: gated, no exchange, RESULT is the CRC low byte first; a descriptor that does not hold exactly n bytes ends
IllegalCommand (40_crc.md R126). Three clauses are the model's: CRC_REG holds the CRC computed (log entry 8, DEDUCED), the bytes
of RESULT past its length stay (log entry 9, DEDUCED), and the illegal descriptor takes CRC16's entry of an overridden
STATUS_CODE (log entry 11, DESIGN CHOICE). -/
def Obligations.Crc16Meaning : Prop :=
  ∀ (s : State) (data : List Byte),
    (s.initFlag = false → exec (.crc16 data) s = .next (s.ended (some .crc16) .notInitialized)) ∧
    (s.initFlag = true → exec (.crc16 data) s =
      .next (((s.computeCrc data).setResult
        [(crc16 data).setWidth 8, (crc16 data >>> 8).setWidth 8]).ended (some .crc16) .ok)) ∧
    (∀ (n : Byte) (rest : List (List Byte)), s.commands = (0x08#8 :: n :: data) :: rest →
      step s =
        if data.length = n.toNat then exec (.crc16 data) (s.accepted rest)
        else .next ((s.accepted rest).ended (some .crc16) .illegalCommand)) ∧
    le16 (crc16 []) = [0x63#8, 0x63#8] ∧ le16 (crc16 [0x12#8, 0x34#8]) = [0x26#8, 0xCF#8]

/-- CRC_CHECK: gated; fewer than two bytes is InvalidResponseLength; otherwise Ok exactly when the last two bytes are the CRC
of the rest, else ChecksumError; a descriptor that does not hold exactly n bytes ends IllegalCommand (40_crc.md R127). Three
clauses are the model's: CRC_REG holds the CRC compared, after Ok and after ChecksumError (log entry 8, DEDUCED), the bytes of
RESULT past its length stay (log entry 9, DEDUCED), and the illegal descriptor takes CRC_CHECK's entry of an overridden
STATUS_CODE (log entry 11, DESIGN CHOICE). -/
def Obligations.CrcCheckMeaning : Prop :=
  ∀ (s : State) (data : List Byte),
    (s.initFlag = false → exec (.crcCheck data) s = .next (s.ended (some .crcCheck) .notInitialized)) ∧
    (s.initFlag = true → data.length < 2 →
      exec (.crcCheck data) s = .next (s.ended (some .crcCheck) .invalidResponseLength)) ∧
    (∀ (p : List Byte) (c0 c1 : Byte), s.initFlag = true → data = p ++ [c0, c1] →
      exec (.crcCheck data) s =
        if c0 = (crc16 p).setWidth 8 ∧ c1 = (crc16 p >>> 8).setWidth 8
        then .next (((s.computeCrc p).setResult [c0, c1]).ended (some .crcCheck) .ok)
        else .next ((s.computeCrc p).ended (some .crcCheck) .checksumError)) ∧
    (∀ (n : Byte) (rest : List (List Byte)), s.commands = (0x09#8 :: n :: data) :: rest →
      step s =
        if data.length = n.toNat then exec (.crcCheck data) (s.accepted rest)
        else .next ((s.accepted rest).ended (some .crcCheck) .illegalCommand))

/-! ### Reset and session commands -/

/-- The power-on values that the spec states (70_reset_and_hazards.md R380). -/
def Obligations.PowerOnState : Prop :=
  State.reset.initFlag = false ∧ tagTypeCode State.reset.dtype = 0#1 ∧ State.reset.endPage = 0x00#8 ∧
  selStateCode State.reset.selState = 0#2 ∧ State.reset.status = 0x00#8 ∧ State.reset.outcome = none ∧
  State.reset.resultLen = 0x00#8

/-- INIT: the five presence checks in order, then RfInit; each failure clears INIT_FLAG and leaves the other session
registers, success writes all four (42_session.md R180). How the status of RfInit comes is the model's choice: the next one
listed in rfAnswers, which is used up, or a free value, which advances freeCount (log entries 2 and 15, DESIGN CHOICE); and
RfInit always comes back (log entry 17, DESIGN CHOICE). -/
def Obligations.InitMeaning : Prop :=
  ∀ s : State,
    (s.collabPresent.getLsbD 0 = false →
      exec .init s = .next (({ s with initFlag := false } : State).ended (some .init) .missingDebugSink)) ∧
    (s.collabPresent.getLsbD 0 = true → s.collabPresent.getLsbD 1 = false →
      exec .init s = .next (({ s with initFlag := false } : State).ended (some .init) .missingInit)) ∧
    (s.collabPresent.getLsbD 0 = true → s.collabPresent.getLsbD 1 = true → s.collabPresent.getLsbD 2 = false →
      exec .init s = .next (({ s with initFlag := false } : State).ended (some .init) .missingDeinit)) ∧
    (s.collabPresent.getLsbD 0 = true → s.collabPresent.getLsbD 1 = true → s.collabPresent.getLsbD 2 = true →
      s.collabPresent.getLsbD 3 = false →
      exec .init s = .next (({ s with initFlag := false } : State).ended (some .init) .missingTransceiver)) ∧
    (s.collabPresent.getLsbD 0 = true → s.collabPresent.getLsbD 1 = true → s.collabPresent.getLsbD 2 = true →
      s.collabPresent.getLsbD 3 = true → s.collabPresent.getLsbD 4 = false →
      exec .init s = .next (({ s with initFlag := false } : State).ended (some .init) .missingDelay)) ∧
    (s.collabPresent = 0b11111#5 →
      ∃ (st : Nat) (t : State),
        (s.rfAnswers = st :: t.rfAnswers ∧ t = { s with rfAnswers := t.rfAnswers, trace := s.trace ++ [.rfInit] } ∨
          s.rfAnswers = [] ∧ t = { s with freeCount := s.freeCount + 1, trace := s.trace ++ [.rfInit] }) ∧
        exec .init s =
          if st = 0 then
            .next (({ t with
              initFlag := true, dtype := .invalid, endPage := 0xFF#8, selState := .notSelected } : State).ended
                (some .init) .ok)
          else .next (({ t with initFlag := false } : State).ended (some .init) .operationFailed))

/-- The state after a successful INIT, whatever the state before it (70_reset_and_hazards.md R383). -/
def Obligations.StateAfterSuccessfulInit : Prop :=
  ∀ s t : State, exec .init s = .next t → t.outcome = some .ok →
    t.initFlag = true ∧ t.dtype = .invalid ∧ t.endPage = 0xFF#8 ∧ t.selState = .notSelected ∧
    t.result = s.result ∧ t.resultLen = s.resultLen ∧ (s.params.statusOverrides = [] → t.status = 0x00#8)

/-- DEINIT: gated; RfDeinit's status decides; success clears INIT_FLAG and nothing else of the session (42_session.md R181).
How the status of RfDeinit comes is the model's choice: the next one listed in rfAnswers, which is used up, or a free value,
which advances freeCount (log entries 2 and 15, DESIGN CHOICE); and RfDeinit always comes back (log entry 17, DESIGN
CHOICE). -/
def Obligations.DeinitMeaning : Prop :=
  ∀ s : State,
    (s.initFlag = false → exec .deinit s = .next (s.ended (some .deinit) .notInitialized)) ∧
    (s.initFlag = true →
      ∃ (st : Nat) (t : State),
        (s.rfAnswers = st :: t.rfAnswers ∧ t = { s with rfAnswers := t.rfAnswers, trace := s.trace ++ [.rfDeinit] } ∨
          s.rfAnswers = [] ∧ t = { s with freeCount := s.freeCount + 1, trace := s.trace ++ [.rfDeinit] }) ∧
        exec .deinit s =
          if st = 0 then .next (({ t with initFlag := false } : State).ended (some .deinit) .ok)
          else .next (t.ended (some .deinit) .operationFailed))

/-- INFO: not gated, Ok always; RESULT is the record (42_session.md R182). That the bytes of RESULT past its length stay is the
model's reading (log entry 9, DEDUCED). -/
def Obligations.InfoMeaning : Prop :=
  ∀ s : State, s.params.infoRecord.length ≤ 60 →
    exec .info s = .next ((s.setResult s.params.infoRecord).ended (some .info) .ok) ∧
    ((s.setResult s.params.infoRecord).ended (some .info) .ok).resultBytes = s.params.infoRecord

/-- SET_STORAGE takes every byte as END_PAGE; GET_STORAGE reports END_PAGE; both are gated and make no exchange
(42_session.md R183, R184). That the bytes of RESULT past its length stay is the model's reading (log entry 9, DEDUCED). -/
def Obligations.StorageMeaning : Prop :=
  ∀ (s : State) (e : Byte),
    (s.initFlag = false →
      exec (.setStorage e) s = .next (s.ended (some .setStorage) .notInitialized) ∧
      exec .getStorage s = .next (s.ended (some .getStorage) .notInitialized)) ∧
    (s.initFlag = true →
      exec (.setStorage e) s = .next (({ s with endPage := e } : State).ended (some .setStorage) .ok) ∧
      exec .getStorage s = .next ((s.setResult [s.endPage]).ended (some .getStorage) .ok) ∧
      ((s.setResult [s.endPage]).ended (some .getStorage) .ok).resultBytes = [s.endPage])

/-! ### The gate, operand checks and failing exchanges

The answers of the transceiver are a list in State, each used up by one exchange (log entry 2, DESIGN CHOICE). Where a statement
takes in WAKE_UP, its DelayMs comes back (log entry 17, DESIGN CHOICE). -/

/-- With INIT_FLAG = 0 every command but INIT and INFO ends NotInitialized: no external primitive, no register but STATUS and
OUTCOME (41_frame_codec.md R142). -/
def Obligations.GateRefusesWhenNotInitialized : Prop :=
  ∀ (i : Instr) (s : State), i ≠ .init → i ≠ .info → s.initFlag = false →
    exec i s = .next (s.ended (some i.opsel) .notInitialized)

/-- An operand error ends the command after the gate and before any exchange: nothing but STATUS and OUTCOME changes
(41_frame_codec.md R152, 60_exceptions.md R340, R343). -/
def Obligations.OperandErrorsEndBeforeAnyExchange : Prop :=
  ∀ (i : Instr) (s : State) (o : CmdOutcome), s.initFlag = true → operandError s i = some o →
    exec i s = .next (s.ended (some i.opsel) o)

/-- A transport failure of the first exchange ends every wire command at once: its first frame (30_encoding.md R92 to R95) was
sent, once, and the outcome is TransportFailed whatever the bytes (41_frame_codec.md R143, R152), with the session registers
as the table of 10_state.md R46 has them. That RXBUF then holds the bytes of the failed answer is the model's reading (log
entry 8, DEDUCED). -/
def Obligations.TransportFailureEndsTheCommand : Prop :=
  ∀ (i : Instr) (s : State) (tx : List Byte) (cap st : Nat) (rx : List Byte) (rest : List Answer),
    s.initFlag = true → operandError s i = none → firstExchange s i = some (tx, cap) →
    s.exchangeAnswers = .returns st rx :: rest → st ≠ 0 → rx.length ≤ s.params.rxLenMax.toNat →
    ∃ t, exec i s = .next t ∧ t.observed = failedAtFirst s i tx cap rest .transportFailed ∧
      t.txFrame = tx ∧ t.rxFrame = rx

/-- A first response that fails its checks ends every wire command with the first check that fails: length, then CRC, then
content; no second frame is sent, RESULT is kept, and the session registers are as the table of 10_state.md R46 has them
(41_frame_codec.md R152, R153, 60_exceptions.md R343, R344, 30_encoding.md R92 to R95). -/
def Obligations.FirstResponseChecksInOrder : Prop :=
  ∀ (i : Instr) (s : State) (tx : List Byte) (cap : Nat) (rx : List Byte) (rest : List Answer) (o : CmdOutcome),
    s.initFlag = true → operandError s i = none → firstExchange s i = some (tx, cap) →
    s.replies rx rest → responseError cap rx i = some o →
    ∃ t, exec i s = .next t ∧ t.observed = failedAtFirst s i tx cap rest o ∧ t.txFrame = tx ∧ t.rxFrame = rx

/-- A two-write command whose first write is acknowledged and whose second is answered with anything but the ACK ends with the
second write's failure; both frames were sent (70_reset_and_hazards.md R388, 20_memory.md R72). The working registers are as
log entry 8 (DEDUCED) has them. -/
def Obligations.SecondWriteFailureIsReported : Prop :=
  ∀ (i : Instr) (s : State) (p1 p2 : List Byte) (st : Nat) (rx : List Byte) (rest : List Answer),
    s.initFlag = true → twoWrites s i = some (p1, p2) →
    s.exchangeAnswers = .returns 0 [0x0A#8] :: .returns st rx :: rest →
    1 ≤ s.params.rxLenMax.toNat → rx.length ≤ s.params.rxLenMax.toNat → (st ≠ 0 ∨ rx ≠ [0x0A#8]) →
    exec i s = .next (((s.gotAck p1 (.returns st rx :: rest)).exchangedCrc p2 1 rx rest).ended (some i.opsel)
      (ackFailureOutcome st rx))

/-- A configuration SET whose page was read well and whose write is answered with anything but the ACK ends with the write's
failure: transport, then length, then content. Both frames were sent, the write with one field changed, and no session
register nor RESULT changes (46_config.md R301, 20_memory.md R72). The working registers are as log entry 8 (DEDUCED) has
them. -/
def Obligations.ConfigWriteFailureIsReported : Prop :=
  ∀ (i : Instr) (s : State) (f : Field) (v : Byte) (d : List Byte) (st : Nat) (rx : List Byte) (rest : List Answer),
    s.initFlag = true → operandError s i = none → configWrite i = some (f, v) → d.length = 16 →
    s.exchangeAnswers = .returns 0 (frameWithCrc d) :: .returns st rx :: rest →
    18 ≤ s.params.rxLenMax.toNat → rx.length ≤ s.params.rxLenMax.toNat → (st ≠ 0 ∨ rx ≠ [0x0A#8]) →
    let page := s.endPage - (cfgFieldOf s.params f).offset
    exec i s = .next (((s.gotData [s.params.wireOp.read, page] d (.returns st rx :: rest)).exchangedCrc
      ([s.params.wireOp.write, page] ++ setFieldByte (cfgFieldOf s.params f) v (d.take 4)) 1 rx rest).ended (some i.opsel)
        (ackFailureOutcome st rx))

/-- GET_LOCK whose first read passed and whose second fails ends with the second read's failure: transport, then length, then
CRC; both frames were sent and RESULT is kept (46_config.md R303, 20_memory.md R72). The working registers are as log entry 8
(DEDUCED) has them. -/
def Obligations.GetLockSecondReadFailureIsReported : Prop :=
  ∀ (s : State) (d : List Byte) (st : Nat) (rx : List Byte) (rest : List Answer),
    s.initFlag = true → d.length = 16 →
    s.exchangeAnswers = .returns 0 (frameWithCrc d) :: .returns st rx :: rest →
    18 ≤ s.params.rxLenMax.toNat → rx.length ≤ s.params.rxLenMax.toNat →
    let both := (s.gotData [s.params.wireOp.read, s.params.lockLowPage] d (.returns st rx :: rest)).exchangedCrc
      [s.params.wireOp.read, s.endPage - 4#8] 18 rx rest
    (st ≠ 0 → exec .getLock s = .next (both.ended (some .getLock) .transportFailed)) ∧
    (st = 0 → rx.length ≠ 18 → exec .getLock s = .next (both.ended (some .getLock) .invalidResponseLength)) ∧
    (st = 0 → rx.length = 18 → rx.drop 16 ≠ le16 (crc16 (rx.take 16)) →
      exec .getLock s = .next ((both.computeCrc (rx.take 16)).ended (some .getLock) .checksumError)) ∧
    both.result = s.result ∧ both.resultLen = s.resultLen

/-- An exchange that never returns leaves the command unfinished, be it the first, or the second of a command that makes two:
a second write, the write of a configuration SET, the second read of GET_LOCK (60_exceptions.md R352). That the model says this by
a fault, which drops the events of the command, is its choice (log entries 2 and 21, DESIGN CHOICE). -/
def Obligations.ExchangeThatNeverReturnsStops : Prop :=
  (∀ (i : Instr) (s : State) (tx : List Byte) (cap : Nat) (rest : List Answer),
    s.initFlag = true → operandError s i = none → firstExchange s i = some (tx, cap) →
    s.exchangeAnswers = .neverReturns :: rest → exec i s = .fault .exchangeNeverReturns) ∧
  (∀ (i : Instr) (s : State) (payloads : List Byte × List Byte) (rest : List Answer),
    s.initFlag = true → twoWrites s i = some payloads → 1 ≤ s.params.rxLenMax.toNat →
    s.exchangeAnswers = .returns 0 [0x0A#8] :: .neverReturns :: rest → exec i s = .fault .exchangeNeverReturns) ∧
  ∀ (i : Instr) (s : State) (d : List Byte) (rest : List Answer),
    s.initFlag = true → operandError s i = none → i = .getLock ∨ (∃ f v, configWrite i = some (f, v)) →
    d.length = 16 → 18 ≤ s.params.rxLenMax.toNat →
    s.exchangeAnswers = .returns 0 (frameWithCrc d) :: .neverReturns :: rest →
    exec i s = .fault .exchangeNeverReturns

/-! ### What each wire command does when its responses are accepted

The next states are written out whole, working registers included: what CRC_REG, TXBUF and RXBUF hold in them, which the host
does not see, is as log entry 8 (DEDUCED) has it, and the bytes of RESULT past RESULT_LEN as log entry 9 (DEDUCED). The answers
of the transceiver are a list in State, each used up by one exchange (log entry 2, DESIGN CHOICE). -/

/-- REQUEST and WAKE_UP answered with the Ultralight ATQA: DTYPE is ULTRALIGHT, SEL_STATE is NOT_SELECTED, RESULT is 01;
WAKE_UP waits first (43_selection.md R200, R201), and that its DelayMs comes back is the model's choice (log entry 17, DESIGN
CHOICE). -/
def Obligations.RequestAndWakeUpComplete : Prop :=
  ∀ (s : State) (rest : List Answer), s.initFlag = true → s.replies [0x44#8, 0x00#8] rest →
    exec .request s = .next ((({ (({ s with selState := .notSelected } : State).exchanged [s.params.wireOp.reqa] 2
      [0x44#8, 0x00#8] rest) with dtype := .ultralight } : State).setResult [0x01#8]).ended (some .request) .ok) ∧
    exec .wakeUp s = .next ((({ (({ s with
        selState := .notSelected, trace := s.trace ++ [.delayMs s.params.wupaDelayMs] } : State).exchanged
      [s.params.wireOp.wupa] 2 [0x44#8, 0x00#8] rest) with dtype := .ultralight } : State).setResult [0x01#8]).ended
        (some .wakeUp) .ok)

/-- HALT: SEL_STATE is NOT_SELECTED, the frame carries its CRC only when HALT_APPEND_CRC is true, and any response ends Ok
(43_selection.md R202). -/
def Obligations.HaltCompletes : Prop :=
  ∀ (s : State) (rx : List Byte) (rest : List Answer), s.initFlag = true → s.replies rx rest →
    (s.params.haltAppendCrc = false → exec .halt s =
      .next ((({ s with selState := .notSelected } : State).exchanged
        [s.params.wireOp.hlta0, s.params.wireOp.hlta1] 1 rx rest).ended (some .halt) .ok)) ∧
    (s.params.haltAppendCrc = true → exec .halt s =
      .next ((({ s with selState := .notSelected } : State).exchangedCrc
        [s.params.wireOp.hlta0, s.params.wireOp.hlta1] 1 rx rest).ended (some .halt) .ok))

/-- ANTICOLL_CL1 and ANTICOLL_CL2 answered with four id bytes and their exclusive-or: RESULT is the id, without the check
byte (43_selection.md R203, R205). -/
def Obligations.AnticollisionCompletes : Prop :=
  ∀ (s : State) (id : Quad) (rest : List Answer), s.initFlag = true →
    s.replies (quadBytes id ++ [id.b0 ^^^ id.b1 ^^^ id.b2 ^^^ id.b3]) rest →
    exec .anticollCl1 s = .next (((s.exchanged [s.params.wireOp.anticollCl1First, s.params.wireOp.anticollCl1Second] 5
      (quadBytes id ++ [id.b0 ^^^ id.b1 ^^^ id.b2 ^^^ id.b3]) rest).setResult (quadBytes id)).ended
        (some .anticollCl1) .ok) ∧
    (s.params.enforceCascadeOrder = false ∨ s.selState = .cl1Done →
      exec .anticollCl2 s = .next (((s.exchanged
        [s.params.wireOp.anticollCl2First, s.params.wireOp.anticollCl2Second] 5
        (quadBytes id ++ [id.b0 ^^^ id.b1 ^^^ id.b2 ^^^ id.b3]) rest).setResult (quadBytes id)).ended
          (some .anticollCl2) .ok))

/-- SELECT_CL1 answered with SAK 0x04 and SELECT_CL2 answered with SAK 0x00: the frame holds the id, the check byte the block
computes and the CRC; SEL_STATE advances; RESULT is the SAK (43_selection.md R204, R206). -/
def Obligations.SelectCompletes : Prop :=
  ∀ (s : State) (id : Quad) (rest : List Answer), s.initFlag = true →
    (s.replies [0x04#8] rest →
      exec (.selectCl1 id) s = .next ((({ s.exchangedCrc
          ([s.params.wireOp.selectCl1First, s.params.wireOp.selectCl1Second] ++ quadBytes id ++
            [id.b0 ^^^ id.b1 ^^^ id.b2 ^^^ id.b3]) 1 [0x04#8] rest with
        selState := .cl1Done } : State).setResult [0x04#8]).ended (some .selectCl1) .ok)) ∧
    (s.replies [0x00#8] rest → s.params.enforceCascadeOrder = false ∨ s.selState = .cl1Done →
      exec (.selectCl2 id) s = .next ((({ s.exchangedCrc
          ([s.params.wireOp.selectCl2First, s.params.wireOp.selectCl2Second] ++ quadBytes id ++
            [id.b0 ^^^ id.b1 ^^^ id.b2 ^^^ id.b3]) 1 [0x00#8] rest with
        selState := .cl2Done } : State).setResult [0x00#8]).ended (some .selectCl2) .ok))

/-- GET_VERSION answered with eight bytes and their CRC: RESULT is the record, END_PAGE is inferred from byte 6 or kept
(44_memory_ops.md R230). -/
def Obligations.GetVersionCompletes : Prop :=
  ∀ (s : State) (d : List Byte) (rest : List Answer), s.initFlag = true → d.length = 8 →
    s.replies (frameWithCrc d) rest →
    exec .getVersion s = .next (({ (s.gotData [s.params.wireOp.getVersion] d rest).setResult d with
      endPage := if d[6]? = some 0x0B#8 then 0x13#8 else if d[6]? = some 0x0E#8 then 0x28#8 else s.endPage } :
        State).ended (some .getVersion) .ok)

/-- READ_PAGE, READ_FOUR_PAGES, READ_SERIAL and OTP_READ answered with 16 bytes and their CRC: one READ frame, and RESULT is
the first 4, all 16, bytes 0 to 2 and 4 to 7, or the first 4 (44_memory_ops.md R231, R232, R236, R237). -/
def Obligations.ReadsComplete : Prop :=
  ∀ (s : State) (p : Byte) (d : List Byte) (rest : List Answer), s.initFlag = true → d.length = 16 →
    s.replies (frameWithCrc d) rest →
    exec (.readPage p) s =
      .next (((s.gotData [s.params.wireOp.read, p] d rest).setResult (d.take 4)).ended (some .readPage) .ok) ∧
    exec (.readFourPages p) s =
      .next (((s.gotData [s.params.wireOp.read, p] d rest).setResult d).ended (some .readFourPages) .ok) ∧
    exec .readSerial s =
      .next (((s.gotData [s.params.wireOp.read, s.params.serialPage] d rest).setResult
        (d.take 3 ++ (d.drop 4).take 4)).ended (some .readSerial) .ok) ∧
    exec .otpRead s =
      .next (((s.gotData [s.params.wireOp.read, s.params.otpPage] d rest).setResult (d.take 4)).ended
        (some .otpRead) .ok)

/-- FAST_READ of n = stop - start + 1 pages, 1 to 15, into a buffer that holds them: RESULT is the 4n bytes
(44_memory_ops.md R233). -/
def Obligations.FastReadCompletes : Prop :=
  ∀ (s : State) (start stop : Byte) (cap : Word16) (d : List Byte) (rest : List Answer), s.initFlag = true →
    start.toNat ≤ stop.toNat → stop.toNat - start.toNat + 1 ≤ 15 → d.length = 4 * (stop.toNat - start.toNat + 1) →
    d.length ≤ cap.toNat → s.replies (frameWithCrc d) rest →
    exec (.fastRead start stop cap) s =
      .next (((s.gotData [s.params.wireOp.fastRead, start, stop] d rest).setResult d).ended (some .fastRead) .ok) ∧
    (((s.gotData [s.params.wireOp.fastRead, start, stop] d rest).setResult d).ended (some .fastRead) .ok).resultBytes =
      d

/-- WRITE_PAGE and OTP_WRITE answered with the ACK: one WRITE frame, no register but STATUS and OUTCOME (44_memory_ops.md
R234, R238). -/
def Obligations.WritesComplete : Prop :=
  ∀ (s : State) (p : Byte) (d : Quad) (rest : List Answer), s.initFlag = true → s.replies [0x0A#8] rest →
    exec (.writePage p d) s =
      .next ((s.gotAck ([s.params.wireOp.write, p] ++ quadBytes d) rest).ended (some .writePage) .ok) ∧
    exec (.otpWrite d) s =
      .next ((s.gotAck ([s.params.wireOp.write, s.params.otpPage] ++ quadBytes d) rest).ended (some .otpWrite) .ok)

/-- COMP_WRITE answered with two ACKs: the request frame, then the four data bytes and twelve zeros, each with its CRC
(44_memory_ops.md R235). -/
def Obligations.CompWriteCompletes : Prop :=
  ∀ (s : State) (p : Byte) (d : Quad) (rest : List Answer), s.initFlag = true →
    s.repliesTwice [0x0A#8] [0x0A#8] rest →
    exec (.compWrite p d) s =
      .next (((s.gotAck [s.params.wireOp.compWrite, p] (.returns 0 [0x0A#8] :: rest)).gotAck
        (quadBytes d ++ List.replicate 12 0x00#8) rest).ended (some .compWrite) .ok)

/-- READ_SIGNATURE answered with 32 bytes and their CRC: RESULT is the 32 bytes (44_memory_ops.md R239). -/
def Obligations.ReadSignatureCompletes : Prop :=
  ∀ (s : State) (d : List Byte) (rest : List Answer), s.initFlag = true → d.length = 32 →
    s.replies (frameWithCrc d) rest →
    exec .readSignature s =
      .next (((s.gotData [s.params.wireOp.readSig, s.params.wireOp.readSigAddr] d rest).setResult d).ended
        (some .readSignature) .ok)

/-- READ_COUNTER answered with a 24-bit value and its CRC: RESULT is the value, little-endian, with a zero top byte.
CHECK_TEARING: RESULT is the flag byte as received (45_counter_auth.md R270, R272). -/
def Obligations.CounterReadsComplete : Prop :=
  ∀ (s : State) (a v0 v1 v2 : Byte) (rest : List Answer), s.initFlag = true → a.toNat ≤ 2 →
    (s.replies (frameWithCrc [v0, v1, v2]) rest →
      exec (.readCounter a) s = .next (((s.gotData [s.params.wireOp.readCnt, a] [v0, v1, v2] rest).setResult
        [v0, v1, v2, 0x00#8]).ended (some .readCounter) .ok)) ∧
    (s.replies (frameWithCrc [v0]) rest →
      exec (.checkTearing a) s = .next (((s.gotData [s.params.wireOp.checkTearing, a] [v0] rest).setResult [v0]).ended
        (some .checkTearing) .ok))

/-- INCREMENT_COUNTER answered with the ACK: the frame holds bits 23:0 of the delta, low byte first, and a zero byte; bits
31:24 are ignored (45_counter_auth.md R271). -/
def Obligations.IncrementCounterCompletes : Prop :=
  ∀ (s : State) (a : Byte) (v : BitVec 32) (rest : List Answer), s.initFlag = true → a.toNat ≤ 2 →
    s.replies [0x0A#8] rest →
    exec (.incrementCounter a v) s =
      .next ((s.gotAck [s.params.wireOp.incrCnt, a, v.extractLsb' 0 8, v.extractLsb' 8 8, v.extractLsb' 16 8, 0x00#8]
        rest).ended (some .incrementCounter) .ok) ∧
    exec (.incrementCounter a v) s = exec (.incrementCounter a (v &&& 0x00FFFFFF#32)) s

/-- AUTHENTICATE answered with a pack and its CRC: Ok with the pack as RESULT when it is the expected one, PackMismatch with
RESULT kept otherwise (45_counter_auth.md R273). -/
def Obligations.AuthenticateComparesThePack : Prop :=
  ∀ (s : State) (pwd : Quad) (k0 k1 r0 r1 : Byte) (rest : List Answer), s.initFlag = true →
    s.replies (frameWithCrc [r0, r1]) rest →
    (r0 = k0 ∧ r1 = k1 →
      exec (.authenticate pwd k0 k1) s =
        .next (((s.gotData (s.params.wireOp.pwdAuth :: quadBytes pwd) [r0, r1] rest).setResult [r0, r1]).ended
          (some .authenticate) .ok)) ∧
    (r0 ≠ k0 ∨ r1 ≠ k1 →
      exec (.authenticate pwd k0 k1) s =
        .next ((s.gotData (s.params.wireOp.pwdAuth :: quadBytes pwd) [r0, r1] rest).ended (some .authenticate)
          .packMismatch))

/-- SET_PASSWORD_PACK answered with two ACKs: the password to page END_PAGE - 1, then the pack and two zero bytes to page
END_PAGE (45_counter_auth.md R274). -/
def Obligations.SetPasswordPackCompletes : Prop :=
  ∀ (s : State) (pwd : Quad) (k0 k1 : Byte) (rest : List Answer), s.initFlag = true →
    s.repliesTwice [0x0A#8] [0x0A#8] rest →
    exec (.setPasswordPack pwd k0 k1) s =
      .next (((s.gotAck ([s.params.wireOp.write, s.endPage - 1#8] ++ quadBytes pwd)
        (.returns 0 [0x0A#8] :: rest)).gotAck [s.params.wireOp.write, s.endPage, k0, k1, 0x00#8, 0x00#8] rest).ended
          (some .setPasswordPack) .ok)

/-- SET_LOCK answered with two ACKs: lock bytes 0 and 1 to bytes 2 and 3 of the low page, then lock bytes 2 to 4 to page
END_PAGE - 4, the other bytes zero (46_config.md R302). -/
def Obligations.SetLockCompletes : Prop :=
  ∀ (s : State) (l0 l1 l2 l3 l4 : Byte) (rest : List Answer), s.initFlag = true →
    s.repliesTwice [0x0A#8] [0x0A#8] rest →
    exec (.setLock l0 l1 l2 l3 l4) s =
      .next (((s.gotAck [s.params.wireOp.write, s.params.lockLowPage, 0x00#8, 0x00#8, l0, l1]
        (.returns 0 [0x0A#8] :: rest)).gotAck [s.params.wireOp.write, s.endPage - 4#8, l2, l3, l4, 0x00#8] rest).ended
          (some .setLock) .ok)

/-- GET_LOCK answered with two good reads: RESULT is bytes 2 and 3 of the low page, then bytes 0 to 2 of page END_PAGE - 4
(46_config.md R303). -/
def Obligations.GetLockCompletes : Prop :=
  ∀ (s : State) (d e : List Byte) (rest : List Answer), s.initFlag = true → d.length = 16 → e.length = 16 →
    s.repliesTwice (frameWithCrc d) (frameWithCrc e) rest →
    exec .getLock s =
      .next ((((s.gotData [s.params.wireOp.read, s.params.lockLowPage] d
          (.returns 0 (frameWithCrc e) :: rest)).gotData [s.params.wireOp.read, s.endPage - 4#8] e rest).setResult
        ((d.drop 2).take 2 ++ e.take 3)).ended (some .getLock) .ok)

/-- A configuration SET with a legal operand, its page read back well and its write acknowledged: the page's four bytes are
written back to the same page with one field changed (46_config.md R301, R304, R306, R308, R310, R312). -/
def Obligations.ConfigSetsComplete : Prop :=
  ∀ (s : State) (v : Byte) (d : List Byte) (rest : List Answer), s.initFlag = true → d.length = 16 →
    s.repliesTwice (frameWithCrc d) [0x0A#8] rest →
    let written (f : Field) : State :=
      let page := s.endPage - (cfgFieldOf s.params f).offset
      (s.gotData [s.params.wireOp.read, page] d (.returns 0 [0x0A#8] :: rest)).gotAck
        ([s.params.wireOp.write, page] ++ setFieldByte (cfgFieldOf s.params f) v (d.take 4)) rest
    (v.toNat ≤ 1 → exec (.setModulation v) s = .next ((written .mod).ended (some .setModulation) .ok)) ∧
    exec (.setProtectStart v) s = .next ((written .auth0).ended (some .setProtectStart) .ok) ∧
    (v.toNat ≤ 1 → exec (.setAccess 0x00#8 v) s = .next ((written .prot).ended (some .setAccess) .ok)) ∧
    (v.toNat ≤ 1 → exec (.setAccess 0x01#8 v) s = .next ((written .cfglck).ended (some .setAccess) .ok)) ∧
    (v.toNat ≤ 7 → exec (.setAuthLimit v) s = .next ((written .authlim).ended (some .setAuthLimit) .ok)) ∧
    exec (.setVctid v) s = .next ((written .vctid).ended (some .setVctid) .ok)

/-- A configuration GET with its page read back well: RESULT is the one field of the page (46_config.md R301, R305, R307,
R309, R311, R313). -/
def Obligations.ConfigGetsComplete : Prop :=
  ∀ (s : State) (d : List Byte) (rest : List Answer), s.initFlag = true → d.length = 16 →
    s.replies (frameWithCrc d) rest →
    let got (f : Field) : State :=
      let field := cfgFieldOf s.params f
      (s.gotData [s.params.wireOp.read, s.endPage - field.offset] d rest).setResult
        [(d.getD field.byteIx 0x00#8 >>> field.lo) &&& BitVec.ofNat 8 (2 ^ field.width - 1)]
    exec .getModulation s = .next ((got .mod).ended (some .getModulation) .ok) ∧
    exec .getProtectStart s = .next ((got .auth0).ended (some .getProtectStart) .ok) ∧
    exec (.getAccess 0x00#8) s = .next ((got .prot).ended (some .getAccess) .ok) ∧
    exec (.getAccess 0x01#8) s = .next ((got .cfglck).ended (some .getAccess) .ok) ∧
    exec .getAuthLimit s = .next ((got .authlim).ended (some .getAuthLimit) .ok) ∧
    exec .getVctid s = .next ((got .vctid).ended (some .getVctid) .ok)

/-! ### Fields, pages and the cascade -/

/-- The page CfgSet writes back: the field's byte is the byte read with every bit outside the field's mask kept and the value's
low bits inside it; every other byte of the page is kept; and CfgGet reads the value back (46_config.md R301,
95_test_vectors.md S5). -/
def Obligations.FieldWritesAreIsolated : Prop :=
  ∀ (f : CfgField) (v old : Byte), f.lo + f.width ≤ 8 →
    (∀ n < 8, (insertField f v old).getLsbD n =
      if f.lo ≤ n ∧ n < f.lo + f.width then v.getLsbD (n - f.lo) else old.getLsbD n) ∧
    (v.toNat < 2 ^ f.width → extractField f (insertField f v old) = v) ∧
    (∀ d : List Byte, d.length = 4 →
      (setFieldByte f v d).length = 4 ∧
      (∀ n : Nat, n ≠ f.byteIx.val → (setFieldByte f v d)[n]? = d[n]?) ∧
      (setFieldByte f v d)[f.byteIx.val]? = some (insertField f v (d.getD f.byteIx.val 0x00#8)) ∧
      (v.toNat < 2 ^ f.width → fieldOfPage f (setFieldByte f v d) = v))

/-- The page numbers of the two known sizes and of the sentinel (20_memory.md R69), and the wrap of R70. -/
def Obligations.PageNumbersOfTheKnownSizes : Prop :=
  [4#8, 3#8, 2#8, 1#8, 0#8].map (pageAt 0x13#8) = [0x0F#8, 0x10#8, 0x11#8, 0x12#8, 0x13#8] ∧
  [4#8, 3#8, 2#8, 1#8, 0#8].map (pageAt 0x28#8) = [0x24#8, 0x25#8, 0x26#8, 0x27#8, 0x28#8] ∧
  [4#8, 3#8, 2#8, 1#8, 0#8].map (pageAt 0xFF#8) = [0xFB#8, 0xFC#8, 0xFD#8, 0xFE#8, 0xFF#8] ∧
  pageAt 0x02#8 3#8 = 0xFF#8

/-- SequenceError is raised exactly by the two CL2 commands, only with ENFORCE_CASCADE_ORDER and SEL_STATE other than
CL1_DONE, and it writes nothing but STATUS and OUTCOME (43_selection.md R207). -/
def Obligations.CascadeCheckMeaning : Prop :=
  ∀ s : State,
    (s.initFlag = true → s.params.enforceCascadeOrder = true → s.selState ≠ .cl1Done →
      exec .anticollCl2 s = .next (s.ended (some .anticollCl2) .sequenceError) ∧
      ∀ id, exec (.selectCl2 id) s = .next (s.ended (some .selectCl2) .sequenceError)) ∧
    ∀ (i : Instr) (t : State), exec i s = .next t → t.outcome = some .sequenceError →
      (i = .anticollCl2 ∨ ∃ id, i = .selectCl2 id) ∧ s.params.enforceCascadeOrder = true ∧ s.selState ≠ .cl1Done

/-! ### The whole machine -/

/-- Every step completes: an idle block waits, and any descriptor ends in one outcome, unless an exchange never returns; when
the next two listed answers return, a step cannot stop (60_exceptions.md R340, R354). The list of answers, and that RfInit,
RfDeinit and DelayMs always come back, are the model's choices (log entries 2 and 17, DESIGN CHOICE). -/
def Obligations.EveryCommandEndsInOneOutcome : Prop :=
  ∀ s : State,
    ((∃ t, step s = .next t ∧ (s.commands ≠ [] → ∃ o, t.outcome = some o)) ∨
      step s = .fault .exchangeNeverReturns) ∧
    (∀ st1 rx1 st2 rx2 rest, s.exchangeAnswers = .returns st1 rx1 :: .returns st2 rx2 :: rest →
      ∃ t, step s = .next t)

/-- Which session registers each command writes, and which it leaves; every command writes STATUS and OUTCOME (10_state.md
R46). -/
def Obligations.SessionRegisterWriters : Prop :=
  ∀ (i : Instr) (s t : State), exec i s = .next t →
    sessionWrites i s t ∧ ∃ o, t.outcome = some o ∧ t.status = statusCode s.params (some i.opsel) o

/-- A command that does not end Ok leaves RESULT and RESULT_LEN as they were (70_reset_and_hazards.md R391, 60_exceptions.md
R341). -/
def Obligations.ResultKeptUnlessOk : Prop :=
  (∀ (i : Instr) (s t : State), exec i s = .next t → t.outcome ≠ some .ok →
    t.result = s.result ∧ t.resultLen = s.resultLen) ∧
  ∀ s t : State, step s = .next t → t.outcome ≠ some .ok → t.result = s.result ∧ t.resultLen = s.resultLen

/-- The default status codes: the common table and the two command overrides (60_exceptions.md R342). -/
def Obligations.StatusCodeTable : Prop :=
  ∀ (p : Params) (c : Option Opsel), p.statusOverrides = [] →
    statusCode p c .ok = 0#8 ∧ statusCode p c .transportFailed = 1#8 ∧ statusCode p c .operationFailed = 1#8 ∧
    statusCode p c .nullHandle = 2#8 ∧ statusCode p c .notInitialized = 3#8 ∧
    statusCode p c .missingDebugSink = 3#8 ∧ statusCode p c .missingInit = 3#8 ∧ statusCode p c .missingDeinit = 3#8 ∧
    statusCode p c .missingTransceiver = 3#8 ∧ statusCode p c .missingDelay = 3#8 ∧
    statusCode p c .sakError = 5#8 ∧ statusCode p c .typeInvalid = 5#8 ∧ statusCode p c .ackError = 6#8 ∧
    statusCode p c .packMismatch = 6#8 ∧ statusCode p c .sequenceError = 7#8 ∧ statusCode p c .invalidParameter = 7#8 ∧
    statusCode p c .illegalCommand = 0xFF#8 ∧
    (c ≠ some .fastRead → statusCode p c .invalidResponseLength = 4#8 ∧ statusCode p c .checksumError = 5#8) ∧
    (c ≠ some .incrementCounter → statusCode p c .invalidAddress = 6#8) ∧
    (c = some .incrementCounter → statusCode p c .invalidAddress = 7#8) ∧
    (c = some .fastRead →
      statusCode p c .invalidRange = 4#8 ∧ statusCode p c .rangeTooLarge = 5#8 ∧ statusCode p c .bufferTooSmall = 6#8 ∧
      statusCode p c .invalidResponseLength = 7#8 ∧ statusCode p c .checksumError = 8#8)

/-- Within one command the default code tells the outcome: two runs that end with the same STATUS end with the same OUTCOME,
but for INIT's five Missing outcomes (60_exceptions.md R342). -/
def Obligations.StatusTellsTheOutcome : Prop :=
  ∀ (i : Instr) (s s' t t' : State), s.params.statusOverrides = [] → s'.params.statusOverrides = [] →
    exec i s = .next t → exec i s' = .next t' → t.status = t'.status → i ≠ .init ∨ t.status ≠ 3#8 →
    t.outcome = t'.outcome

/-- NullHandle has the default code 2 and no command raises it (60_exceptions.md R351). -/
def Obligations.NullHandleIsNeverRaised : Prop :=
  (∀ (p : Params) (c : Option Opsel), p.statusOverrides = [] → statusCode p c .nullHandle = 2#8) ∧
  (∀ s t : State, step s = .next t → s.outcome ≠ some .nullHandle → t.outcome ≠ some .nullHandle) ∧
  ∀ (i : Instr) (s t : State), exec i s = .next t → t.outcome ≠ some .nullHandle

/-- No step writes the configuration (10_state.md R45, 20_memory.md R77). The other two clauses are the model's choices, about
what the spec holds outside the block: the input COLLAB_PRESENT is a field that keeps its value (log entry 6, DESIGN CHOICE), and
the pending descriptors are a list from which a step takes the first (log entry 1, DESIGN CHOICE). -/
def Obligations.ConfigurationIsFixed : Prop :=
  ∀ s t : State, step s = .next t →
    t.params = s.params ∧ t.collabPresent = s.collabPresent ∧ t.commands = s.commands.tail

/-- A command sends at most two frames, each one of the wire command set, and makes no RF or delay event but its own
(30_encoding.md R96, 00_scope.md R9, 70_reset_and_hazards.md R396). The trace is the model's record of the external events (log
entry 10, DESIGN CHOICE). -/
def Obligations.OnlyKnownFramesAreSent : Prop :=
  ∀ (i : Instr) (s t : State), exec i s = .next t →
    ∃ es, t.trace = s.trace ++ es ∧ exchangeCount es ≤ 2 ∧
      (∀ tx cap, Event.exchange tx cap ∈ es → WireFrame s.params tx) ∧
      (Event.rfInit ∈ es → i = .init) ∧ (Event.rfDeinit ∈ es → i = .deinit) ∧
      (∀ n, Event.delayMs n ∈ es → i = .wakeUp ∧ n = s.params.wupaDelayMs)

/-- Every step keeps the invariant of the block, from every state that has it (10_state.md R37, R38, R40, R41). -/
def Obligations.StepKeepsTheInvariant : Prop :=
  ∀ s t : State, s.Inv → step s = .next t → t.Inv

/-- The power-on state has the invariant (70_reset_and_hazards.md R380). -/
def Obligations.PowerOnHasTheInvariant : Prop := State.reset.Inv

/-- From power-on on, every exchange the block records sent a frame of the wire command set: the empty trace of power-on is
such a trace, and every step keeps it such (30_encoding.md R96). The trace is the model's record of the external events (log
entry 10, DESIGN CHOICE). -/
def Obligations.StepKeepsTheTraceToKnownFrames : Prop :=
  State.reset.tracesKnownFrames ∧
  ∀ s t : State, s.tracesKnownFrames → step s = .next t → t.tracesKnownFrames

/-! ### Host sequences

The two sequences are functions over the block beside the step, run by the host (log entry 16, DESIGN CHOICE); the answers of the
transceiver are a list in State, each used up by one exchange (log entry 2, DESIGN CHOICE). -/

/-- SELECT_CARD and WAKE_SELECT_CARD on an initialised block whose tag answers as an Ultralight: the host gathers the 8-byte
identifier, the CL1 id followed by the CL2 id, and the block ends with CL2_DONE and ULTRALIGHT; WAKE_SELECT_CARD waits and
sends WUPA in the place of REQA (30_encoding.md R88, 43_selection.md R206). Three things are the model's choices: that the five
listed answers are used up (log entry 2, DESIGN CHOICE), that the sequences are functions beside the step (log entry 16, DESIGN
CHOICE), and that WAKE_UP's delay comes back (log entry 17, DESIGN CHOICE). The trace is log entry 10 (DESIGN CHOICE). -/
def Obligations.SelectCardGathersTheIdentifier : Prop :=
  ∀ (s : State) (id1 id2 : Quad) (rest : List Answer), s.initFlag = true → 5 ≤ s.params.rxLenMax.toNat →
    s.exchangeAnswers = .returns 0 [0x44#8, 0x00#8] :: .returns 0 (quadBytes id1 ++ [bcc id1]) :: .returns 0 [0x04#8] ::
      .returns 0 (quadBytes id2 ++ [bcc id2]) :: .returns 0 [0x00#8] :: rest →
    selectsTag (selectCard s) s id1 id2 rest (.exchange [s.params.wireOp.reqa] 2 :: cascadeEvents s.params id1 id2) ∧
    selectsTag (wakeSelectCard s) s id1 id2 rest
      (.delayMs s.params.wupaDelayMs :: .exchange [s.params.wireOp.wupa] 2 :: cascadeEvents s.params id1 id2)

/-- Each command of SELECT_CARD and of WAKE_SELECT_CARD runs only if the one before it ended Ok, with the id that the
anti-collision before it returned: a command that does not end Ok is the last one, and the block stays as it left it
(30_encoding.md R88). On the id bytes that the host holds after a failure R88 is silent: that they are those gathered before it,
and both ids after a failing SELECT_CL2, is the model's choice, as are the sequences as functions (log entry 16, DESIGN CHOICE).
A sequence that an exchange stops is HostSequencesStopWithTheirCommand's. -/
def Obligations.HostSequencesStopAtTheFirstFailure : Prop :=
  ∀ s : State,
    runsOnlyAfterOk .request s (selectCard s) ∧ runsOnlyAfterOk .wakeUp s (wakeSelectCard s)

/-- A sequence that reaches a command whose exchange never returns stops there with that command's fault, and no later command
runs (30_encoding.md R88, 60_exceptions.md R352). The fault is how the model says that an answer never comes (log entry 2, DESIGN
CHOICE) and drops the events of that command (log entry 21, DESIGN CHOICE), and the sequences are functions beside the step (log
entry 16, DESIGN CHOICE). -/
def Obligations.HostSequencesStopWithTheirCommand : Prop :=
  ∀ s : State,
    stopsWithItsCommand .request s (selectCard s) ∧ stopsWithItsCommand .wakeUp s (wakeSelectCard s)
end

