-- ==== Sys2Proof/Laws/State.lean ====
section
/-! SUPPORT. What each register update leaves of each field: one lemma per field per update, true by rfl. -/

namespace Sys2Proof.Machine

variable (s : State)

/-! ### ended -/

@[simp] theorem State.ended_initFlag (c : Option Opsel) (o : CmdOutcome) : (s.ended c o).initFlag = s.initFlag := rfl
@[simp] theorem State.ended_dtype (c : Option Opsel) (o : CmdOutcome) : (s.ended c o).dtype = s.dtype := rfl
@[simp] theorem State.ended_endPage (c : Option Opsel) (o : CmdOutcome) : (s.ended c o).endPage = s.endPage := rfl
@[simp] theorem State.ended_selState (c : Option Opsel) (o : CmdOutcome) : (s.ended c o).selState = s.selState := rfl
@[simp] theorem State.ended_crcReg (c : Option Opsel) (o : CmdOutcome) : (s.ended c o).crcReg = s.crcReg := rfl
@[simp] theorem State.ended_txBuf (c : Option Opsel) (o : CmdOutcome) : (s.ended c o).txBuf = s.txBuf := rfl
@[simp] theorem State.ended_txLen (c : Option Opsel) (o : CmdOutcome) : (s.ended c o).txLen = s.txLen := rfl
@[simp] theorem State.ended_rxBuf (c : Option Opsel) (o : CmdOutcome) : (s.ended c o).rxBuf = s.rxBuf := rfl
@[simp] theorem State.ended_rxLen (c : Option Opsel) (o : CmdOutcome) : (s.ended c o).rxLen = s.rxLen := rfl
@[simp] theorem State.ended_status (c : Option Opsel) (o : CmdOutcome) : (s.ended c o).status = statusCode s.params c o := rfl
@[simp] theorem State.ended_outcome (c : Option Opsel) (o : CmdOutcome) : (s.ended c o).outcome = some o := rfl
@[simp] theorem State.ended_result (c : Option Opsel) (o : CmdOutcome) : (s.ended c o).result = s.result := rfl
@[simp] theorem State.ended_resultLen (c : Option Opsel) (o : CmdOutcome) : (s.ended c o).resultLen = s.resultLen := rfl
@[simp] theorem State.ended_collabPresent (c : Option Opsel) (o : CmdOutcome) : (s.ended c o).collabPresent = s.collabPresent := rfl
@[simp] theorem State.ended_commands (c : Option Opsel) (o : CmdOutcome) : (s.ended c o).commands = s.commands := rfl
@[simp] theorem State.ended_exchangeAnswers (c : Option Opsel) (o : CmdOutcome) : (s.ended c o).exchangeAnswers = s.exchangeAnswers := rfl
@[simp] theorem State.ended_rfAnswers (c : Option Opsel) (o : CmdOutcome) : (s.ended c o).rfAnswers = s.rfAnswers := rfl
@[simp] theorem State.ended_freeCount (c : Option Opsel) (o : CmdOutcome) : (s.ended c o).freeCount = s.freeCount := rfl
@[simp] theorem State.ended_trace (c : Option Opsel) (o : CmdOutcome) : (s.ended c o).trace = s.trace := rfl
@[simp] theorem State.ended_params (c : Option Opsel) (o : CmdOutcome) : (s.ended c o).params = s.params := rfl

/-! ### setResult -/

@[simp] theorem State.setResult_initFlag (bytes : List Byte) : (s.setResult bytes).initFlag = s.initFlag := rfl
@[simp] theorem State.setResult_dtype (bytes : List Byte) : (s.setResult bytes).dtype = s.dtype := rfl
@[simp] theorem State.setResult_endPage (bytes : List Byte) : (s.setResult bytes).endPage = s.endPage := rfl
@[simp] theorem State.setResult_selState (bytes : List Byte) : (s.setResult bytes).selState = s.selState := rfl
@[simp] theorem State.setResult_crcReg (bytes : List Byte) : (s.setResult bytes).crcReg = s.crcReg := rfl
@[simp] theorem State.setResult_txBuf (bytes : List Byte) : (s.setResult bytes).txBuf = s.txBuf := rfl
@[simp] theorem State.setResult_txLen (bytes : List Byte) : (s.setResult bytes).txLen = s.txLen := rfl
@[simp] theorem State.setResult_rxBuf (bytes : List Byte) : (s.setResult bytes).rxBuf = s.rxBuf := rfl
@[simp] theorem State.setResult_rxLen (bytes : List Byte) : (s.setResult bytes).rxLen = s.rxLen := rfl
@[simp] theorem State.setResult_status (bytes : List Byte) : (s.setResult bytes).status = s.status := rfl
@[simp] theorem State.setResult_outcome (bytes : List Byte) : (s.setResult bytes).outcome = s.outcome := rfl
@[simp] theorem State.setResult_result (bytes : List Byte) : (s.setResult bytes).result = fillBuffer s.result bytes := rfl
@[simp] theorem State.setResult_resultLen (bytes : List Byte) : (s.setResult bytes).resultLen = BitVec.ofNat 8 bytes.length := rfl
@[simp] theorem State.setResult_collabPresent (bytes : List Byte) : (s.setResult bytes).collabPresent = s.collabPresent := rfl
@[simp] theorem State.setResult_commands (bytes : List Byte) : (s.setResult bytes).commands = s.commands := rfl
@[simp] theorem State.setResult_exchangeAnswers (bytes : List Byte) : (s.setResult bytes).exchangeAnswers = s.exchangeAnswers := rfl
@[simp] theorem State.setResult_rfAnswers (bytes : List Byte) : (s.setResult bytes).rfAnswers = s.rfAnswers := rfl
@[simp] theorem State.setResult_freeCount (bytes : List Byte) : (s.setResult bytes).freeCount = s.freeCount := rfl
@[simp] theorem State.setResult_trace (bytes : List Byte) : (s.setResult bytes).trace = s.trace := rfl
@[simp] theorem State.setResult_params (bytes : List Byte) : (s.setResult bytes).params = s.params := rfl

/-! ### computeCrc -/

@[simp] theorem State.computeCrc_initFlag (bytes : List Byte) : (s.computeCrc bytes).initFlag = s.initFlag := rfl
@[simp] theorem State.computeCrc_dtype (bytes : List Byte) : (s.computeCrc bytes).dtype = s.dtype := rfl
@[simp] theorem State.computeCrc_endPage (bytes : List Byte) : (s.computeCrc bytes).endPage = s.endPage := rfl
@[simp] theorem State.computeCrc_selState (bytes : List Byte) : (s.computeCrc bytes).selState = s.selState := rfl
@[simp] theorem State.computeCrc_crcReg (bytes : List Byte) : (s.computeCrc bytes).crcReg = crc16 bytes := rfl
@[simp] theorem State.computeCrc_txBuf (bytes : List Byte) : (s.computeCrc bytes).txBuf = s.txBuf := rfl
@[simp] theorem State.computeCrc_txLen (bytes : List Byte) : (s.computeCrc bytes).txLen = s.txLen := rfl
@[simp] theorem State.computeCrc_rxBuf (bytes : List Byte) : (s.computeCrc bytes).rxBuf = s.rxBuf := rfl
@[simp] theorem State.computeCrc_rxLen (bytes : List Byte) : (s.computeCrc bytes).rxLen = s.rxLen := rfl
@[simp] theorem State.computeCrc_status (bytes : List Byte) : (s.computeCrc bytes).status = s.status := rfl
@[simp] theorem State.computeCrc_outcome (bytes : List Byte) : (s.computeCrc bytes).outcome = s.outcome := rfl
@[simp] theorem State.computeCrc_result (bytes : List Byte) : (s.computeCrc bytes).result = s.result := rfl
@[simp] theorem State.computeCrc_resultLen (bytes : List Byte) : (s.computeCrc bytes).resultLen = s.resultLen := rfl
@[simp] theorem State.computeCrc_collabPresent (bytes : List Byte) : (s.computeCrc bytes).collabPresent = s.collabPresent := rfl
@[simp] theorem State.computeCrc_commands (bytes : List Byte) : (s.computeCrc bytes).commands = s.commands := rfl
@[simp] theorem State.computeCrc_exchangeAnswers (bytes : List Byte) : (s.computeCrc bytes).exchangeAnswers = s.exchangeAnswers := rfl
@[simp] theorem State.computeCrc_rfAnswers (bytes : List Byte) : (s.computeCrc bytes).rfAnswers = s.rfAnswers := rfl
@[simp] theorem State.computeCrc_freeCount (bytes : List Byte) : (s.computeCrc bytes).freeCount = s.freeCount := rfl
@[simp] theorem State.computeCrc_trace (bytes : List Byte) : (s.computeCrc bytes).trace = s.trace := rfl
@[simp] theorem State.computeCrc_params (bytes : List Byte) : (s.computeCrc bytes).params = s.params := rfl

/-! ### loadFrame -/

@[simp] theorem State.loadFrame_initFlag (tx : List Byte) : (s.loadFrame tx).initFlag = s.initFlag := rfl
@[simp] theorem State.loadFrame_dtype (tx : List Byte) : (s.loadFrame tx).dtype = s.dtype := rfl
@[simp] theorem State.loadFrame_endPage (tx : List Byte) : (s.loadFrame tx).endPage = s.endPage := rfl
@[simp] theorem State.loadFrame_selState (tx : List Byte) : (s.loadFrame tx).selState = s.selState := rfl
@[simp] theorem State.loadFrame_crcReg (tx : List Byte) : (s.loadFrame tx).crcReg = s.crcReg := rfl
@[simp] theorem State.loadFrame_txBuf (tx : List Byte) : (s.loadFrame tx).txBuf = fillBuffer s.txBuf tx := rfl
@[simp] theorem State.loadFrame_txLen (tx : List Byte) : (s.loadFrame tx).txLen = BitVec.ofNat 8 tx.length := rfl
@[simp] theorem State.loadFrame_rxBuf (tx : List Byte) : (s.loadFrame tx).rxBuf = s.rxBuf := rfl
@[simp] theorem State.loadFrame_rxLen (tx : List Byte) : (s.loadFrame tx).rxLen = s.rxLen := rfl
@[simp] theorem State.loadFrame_status (tx : List Byte) : (s.loadFrame tx).status = s.status := rfl
@[simp] theorem State.loadFrame_outcome (tx : List Byte) : (s.loadFrame tx).outcome = s.outcome := rfl
@[simp] theorem State.loadFrame_result (tx : List Byte) : (s.loadFrame tx).result = s.result := rfl
@[simp] theorem State.loadFrame_resultLen (tx : List Byte) : (s.loadFrame tx).resultLen = s.resultLen := rfl
@[simp] theorem State.loadFrame_collabPresent (tx : List Byte) : (s.loadFrame tx).collabPresent = s.collabPresent := rfl
@[simp] theorem State.loadFrame_commands (tx : List Byte) : (s.loadFrame tx).commands = s.commands := rfl
@[simp] theorem State.loadFrame_exchangeAnswers (tx : List Byte) : (s.loadFrame tx).exchangeAnswers = s.exchangeAnswers := rfl
@[simp] theorem State.loadFrame_rfAnswers (tx : List Byte) : (s.loadFrame tx).rfAnswers = s.rfAnswers := rfl
@[simp] theorem State.loadFrame_freeCount (tx : List Byte) : (s.loadFrame tx).freeCount = s.freeCount := rfl
@[simp] theorem State.loadFrame_trace (tx : List Byte) : (s.loadFrame tx).trace = s.trace := rfl
@[simp] theorem State.loadFrame_params (tx : List Byte) : (s.loadFrame tx).params = s.params := rfl

/-! ### loadResponse -/

@[simp] theorem State.loadResponse_initFlag (rx : List Byte) : (s.loadResponse rx).initFlag = s.initFlag := rfl
@[simp] theorem State.loadResponse_dtype (rx : List Byte) : (s.loadResponse rx).dtype = s.dtype := rfl
@[simp] theorem State.loadResponse_endPage (rx : List Byte) : (s.loadResponse rx).endPage = s.endPage := rfl
@[simp] theorem State.loadResponse_selState (rx : List Byte) : (s.loadResponse rx).selState = s.selState := rfl
@[simp] theorem State.loadResponse_crcReg (rx : List Byte) : (s.loadResponse rx).crcReg = s.crcReg := rfl
@[simp] theorem State.loadResponse_txBuf (rx : List Byte) : (s.loadResponse rx).txBuf = s.txBuf := rfl
@[simp] theorem State.loadResponse_txLen (rx : List Byte) : (s.loadResponse rx).txLen = s.txLen := rfl
@[simp] theorem State.loadResponse_rxBuf (rx : List Byte) : (s.loadResponse rx).rxBuf = fillBuffer s.rxBuf rx := rfl
@[simp] theorem State.loadResponse_rxLen (rx : List Byte) : (s.loadResponse rx).rxLen = BitVec.ofNat 8 rx.length := rfl
@[simp] theorem State.loadResponse_status (rx : List Byte) : (s.loadResponse rx).status = s.status := rfl
@[simp] theorem State.loadResponse_outcome (rx : List Byte) : (s.loadResponse rx).outcome = s.outcome := rfl
@[simp] theorem State.loadResponse_result (rx : List Byte) : (s.loadResponse rx).result = s.result := rfl
@[simp] theorem State.loadResponse_resultLen (rx : List Byte) : (s.loadResponse rx).resultLen = s.resultLen := rfl
@[simp] theorem State.loadResponse_collabPresent (rx : List Byte) : (s.loadResponse rx).collabPresent = s.collabPresent := rfl
@[simp] theorem State.loadResponse_commands (rx : List Byte) : (s.loadResponse rx).commands = s.commands := rfl
@[simp] theorem State.loadResponse_exchangeAnswers (rx : List Byte) : (s.loadResponse rx).exchangeAnswers = s.exchangeAnswers := rfl
@[simp] theorem State.loadResponse_rfAnswers (rx : List Byte) : (s.loadResponse rx).rfAnswers = s.rfAnswers := rfl
@[simp] theorem State.loadResponse_freeCount (rx : List Byte) : (s.loadResponse rx).freeCount = s.freeCount := rfl
@[simp] theorem State.loadResponse_trace (rx : List Byte) : (s.loadResponse rx).trace = s.trace := rfl
@[simp] theorem State.loadResponse_params (rx : List Byte) : (s.loadResponse rx).params = s.params := rfl

/-! ### emit -/

@[simp] theorem State.emit_initFlag (e : Event) : (s.emit e).initFlag = s.initFlag := rfl
@[simp] theorem State.emit_dtype (e : Event) : (s.emit e).dtype = s.dtype := rfl
@[simp] theorem State.emit_endPage (e : Event) : (s.emit e).endPage = s.endPage := rfl
@[simp] theorem State.emit_selState (e : Event) : (s.emit e).selState = s.selState := rfl
@[simp] theorem State.emit_crcReg (e : Event) : (s.emit e).crcReg = s.crcReg := rfl
@[simp] theorem State.emit_txBuf (e : Event) : (s.emit e).txBuf = s.txBuf := rfl
@[simp] theorem State.emit_txLen (e : Event) : (s.emit e).txLen = s.txLen := rfl
@[simp] theorem State.emit_rxBuf (e : Event) : (s.emit e).rxBuf = s.rxBuf := rfl
@[simp] theorem State.emit_rxLen (e : Event) : (s.emit e).rxLen = s.rxLen := rfl
@[simp] theorem State.emit_status (e : Event) : (s.emit e).status = s.status := rfl
@[simp] theorem State.emit_outcome (e : Event) : (s.emit e).outcome = s.outcome := rfl
@[simp] theorem State.emit_result (e : Event) : (s.emit e).result = s.result := rfl
@[simp] theorem State.emit_resultLen (e : Event) : (s.emit e).resultLen = s.resultLen := rfl
@[simp] theorem State.emit_collabPresent (e : Event) : (s.emit e).collabPresent = s.collabPresent := rfl
@[simp] theorem State.emit_commands (e : Event) : (s.emit e).commands = s.commands := rfl
@[simp] theorem State.emit_exchangeAnswers (e : Event) : (s.emit e).exchangeAnswers = s.exchangeAnswers := rfl
@[simp] theorem State.emit_rfAnswers (e : Event) : (s.emit e).rfAnswers = s.rfAnswers := rfl
@[simp] theorem State.emit_freeCount (e : Event) : (s.emit e).freeCount = s.freeCount := rfl
@[simp] theorem State.emit_trace (e : Event) : (s.emit e).trace = s.trace ++ [e] := rfl
@[simp] theorem State.emit_params (e : Event) : (s.emit e).params = s.params := rfl

/-! ### initialised -/

@[simp] theorem State.initialised_initFlag : (s.initialised).initFlag = true := rfl
@[simp] theorem State.initialised_dtype : (s.initialised).dtype = TagType.invalid := rfl
@[simp] theorem State.initialised_endPage : (s.initialised).endPage = endPageUnknown := rfl
@[simp] theorem State.initialised_selState : (s.initialised).selState = SelState.notSelected := rfl
@[simp] theorem State.initialised_crcReg : (s.initialised).crcReg = s.crcReg := rfl
@[simp] theorem State.initialised_txBuf : (s.initialised).txBuf = s.txBuf := rfl
@[simp] theorem State.initialised_txLen : (s.initialised).txLen = s.txLen := rfl
@[simp] theorem State.initialised_rxBuf : (s.initialised).rxBuf = s.rxBuf := rfl
@[simp] theorem State.initialised_rxLen : (s.initialised).rxLen = s.rxLen := rfl
@[simp] theorem State.initialised_status : (s.initialised).status = s.status := rfl
@[simp] theorem State.initialised_outcome : (s.initialised).outcome = s.outcome := rfl
@[simp] theorem State.initialised_result : (s.initialised).result = s.result := rfl
@[simp] theorem State.initialised_resultLen : (s.initialised).resultLen = s.resultLen := rfl
@[simp] theorem State.initialised_collabPresent : (s.initialised).collabPresent = s.collabPresent := rfl
@[simp] theorem State.initialised_commands : (s.initialised).commands = s.commands := rfl
@[simp] theorem State.initialised_exchangeAnswers : (s.initialised).exchangeAnswers = s.exchangeAnswers := rfl
@[simp] theorem State.initialised_rfAnswers : (s.initialised).rfAnswers = s.rfAnswers := rfl
@[simp] theorem State.initialised_freeCount : (s.initialised).freeCount = s.freeCount := rfl
@[simp] theorem State.initialised_trace : (s.initialised).trace = s.trace := rfl
@[simp] theorem State.initialised_params : (s.initialised).params = s.params := rfl

/-! ### deselect -/

@[simp] theorem State.deselect_initFlag : (s.deselect).initFlag = s.initFlag := rfl
@[simp] theorem State.deselect_dtype : (s.deselect).dtype = s.dtype := rfl
@[simp] theorem State.deselect_endPage : (s.deselect).endPage = s.endPage := rfl
@[simp] theorem State.deselect_selState : (s.deselect).selState = SelState.notSelected := rfl
@[simp] theorem State.deselect_crcReg : (s.deselect).crcReg = s.crcReg := rfl
@[simp] theorem State.deselect_txBuf : (s.deselect).txBuf = s.txBuf := rfl
@[simp] theorem State.deselect_txLen : (s.deselect).txLen = s.txLen := rfl
@[simp] theorem State.deselect_rxBuf : (s.deselect).rxBuf = s.rxBuf := rfl
@[simp] theorem State.deselect_rxLen : (s.deselect).rxLen = s.rxLen := rfl
@[simp] theorem State.deselect_status : (s.deselect).status = s.status := rfl
@[simp] theorem State.deselect_outcome : (s.deselect).outcome = s.outcome := rfl
@[simp] theorem State.deselect_result : (s.deselect).result = s.result := rfl
@[simp] theorem State.deselect_resultLen : (s.deselect).resultLen = s.resultLen := rfl
@[simp] theorem State.deselect_collabPresent : (s.deselect).collabPresent = s.collabPresent := rfl
@[simp] theorem State.deselect_commands : (s.deselect).commands = s.commands := rfl
@[simp] theorem State.deselect_exchangeAnswers : (s.deselect).exchangeAnswers = s.exchangeAnswers := rfl
@[simp] theorem State.deselect_rfAnswers : (s.deselect).rfAnswers = s.rfAnswers := rfl
@[simp] theorem State.deselect_freeCount : (s.deselect).freeCount = s.freeCount := rfl
@[simp] theorem State.deselect_trace : (s.deselect).trace = s.trace := rfl
@[simp] theorem State.deselect_params : (s.deselect).params = s.params := rfl

/-! ### invalidate -/

@[simp] theorem State.invalidate_initFlag : (s.invalidate).initFlag = s.initFlag := rfl
@[simp] theorem State.invalidate_dtype : (s.invalidate).dtype = TagType.invalid := rfl
@[simp] theorem State.invalidate_endPage : (s.invalidate).endPage = s.endPage := rfl
@[simp] theorem State.invalidate_selState : (s.invalidate).selState = s.selState := rfl
@[simp] theorem State.invalidate_crcReg : (s.invalidate).crcReg = s.crcReg := rfl
@[simp] theorem State.invalidate_txBuf : (s.invalidate).txBuf = s.txBuf := rfl
@[simp] theorem State.invalidate_txLen : (s.invalidate).txLen = s.txLen := rfl
@[simp] theorem State.invalidate_rxBuf : (s.invalidate).rxBuf = s.rxBuf := rfl
@[simp] theorem State.invalidate_rxLen : (s.invalidate).rxLen = s.rxLen := rfl
@[simp] theorem State.invalidate_status : (s.invalidate).status = s.status := rfl
@[simp] theorem State.invalidate_outcome : (s.invalidate).outcome = s.outcome := rfl
@[simp] theorem State.invalidate_result : (s.invalidate).result = s.result := rfl
@[simp] theorem State.invalidate_resultLen : (s.invalidate).resultLen = s.resultLen := rfl
@[simp] theorem State.invalidate_collabPresent : (s.invalidate).collabPresent = s.collabPresent := rfl
@[simp] theorem State.invalidate_commands : (s.invalidate).commands = s.commands := rfl
@[simp] theorem State.invalidate_exchangeAnswers : (s.invalidate).exchangeAnswers = s.exchangeAnswers := rfl
@[simp] theorem State.invalidate_rfAnswers : (s.invalidate).rfAnswers = s.rfAnswers := rfl
@[simp] theorem State.invalidate_freeCount : (s.invalidate).freeCount = s.freeCount := rfl
@[simp] theorem State.invalidate_trace : (s.invalidate).trace = s.trace := rfl
@[simp] theorem State.invalidate_params : (s.invalidate).params = s.params := rfl

/-! ### accepted -/

@[simp] theorem State.accepted_initFlag (rest : List (List Byte)) : (s.accepted rest).initFlag = s.initFlag := rfl
@[simp] theorem State.accepted_dtype (rest : List (List Byte)) : (s.accepted rest).dtype = s.dtype := rfl
@[simp] theorem State.accepted_endPage (rest : List (List Byte)) : (s.accepted rest).endPage = s.endPage := rfl
@[simp] theorem State.accepted_selState (rest : List (List Byte)) : (s.accepted rest).selState = s.selState := rfl
@[simp] theorem State.accepted_crcReg (rest : List (List Byte)) : (s.accepted rest).crcReg = s.crcReg := rfl
@[simp] theorem State.accepted_txBuf (rest : List (List Byte)) : (s.accepted rest).txBuf = s.txBuf := rfl
@[simp] theorem State.accepted_txLen (rest : List (List Byte)) : (s.accepted rest).txLen = s.txLen := rfl
@[simp] theorem State.accepted_rxBuf (rest : List (List Byte)) : (s.accepted rest).rxBuf = s.rxBuf := rfl
@[simp] theorem State.accepted_rxLen (rest : List (List Byte)) : (s.accepted rest).rxLen = s.rxLen := rfl
@[simp] theorem State.accepted_status (rest : List (List Byte)) : (s.accepted rest).status = s.status := rfl
@[simp] theorem State.accepted_outcome (rest : List (List Byte)) : (s.accepted rest).outcome = s.outcome := rfl
@[simp] theorem State.accepted_result (rest : List (List Byte)) : (s.accepted rest).result = s.result := rfl
@[simp] theorem State.accepted_resultLen (rest : List (List Byte)) : (s.accepted rest).resultLen = s.resultLen := rfl
@[simp] theorem State.accepted_collabPresent (rest : List (List Byte)) : (s.accepted rest).collabPresent = s.collabPresent := rfl
@[simp] theorem State.accepted_commands (rest : List (List Byte)) : (s.accepted rest).commands = rest := rfl
@[simp] theorem State.accepted_exchangeAnswers (rest : List (List Byte)) : (s.accepted rest).exchangeAnswers = s.exchangeAnswers := rfl
@[simp] theorem State.accepted_rfAnswers (rest : List (List Byte)) : (s.accepted rest).rfAnswers = s.rfAnswers := rfl
@[simp] theorem State.accepted_freeCount (rest : List (List Byte)) : (s.accepted rest).freeCount = s.freeCount := rfl
@[simp] theorem State.accepted_trace (rest : List (List Byte)) : (s.accepted rest).trace = s.trace := rfl
@[simp] theorem State.accepted_params (rest : List (List Byte)) : (s.accepted rest).params = s.params := rfl

/-! ### issue -/

@[simp] theorem State.issue_initFlag (d : List Byte) : (s.issue d).initFlag = s.initFlag := rfl
@[simp] theorem State.issue_dtype (d : List Byte) : (s.issue d).dtype = s.dtype := rfl
@[simp] theorem State.issue_endPage (d : List Byte) : (s.issue d).endPage = s.endPage := rfl
@[simp] theorem State.issue_selState (d : List Byte) : (s.issue d).selState = s.selState := rfl
@[simp] theorem State.issue_crcReg (d : List Byte) : (s.issue d).crcReg = s.crcReg := rfl
@[simp] theorem State.issue_txBuf (d : List Byte) : (s.issue d).txBuf = s.txBuf := rfl
@[simp] theorem State.issue_txLen (d : List Byte) : (s.issue d).txLen = s.txLen := rfl
@[simp] theorem State.issue_rxBuf (d : List Byte) : (s.issue d).rxBuf = s.rxBuf := rfl
@[simp] theorem State.issue_rxLen (d : List Byte) : (s.issue d).rxLen = s.rxLen := rfl
@[simp] theorem State.issue_status (d : List Byte) : (s.issue d).status = s.status := rfl
@[simp] theorem State.issue_outcome (d : List Byte) : (s.issue d).outcome = s.outcome := rfl
@[simp] theorem State.issue_result (d : List Byte) : (s.issue d).result = s.result := rfl
@[simp] theorem State.issue_resultLen (d : List Byte) : (s.issue d).resultLen = s.resultLen := rfl
@[simp] theorem State.issue_collabPresent (d : List Byte) : (s.issue d).collabPresent = s.collabPresent := rfl
@[simp] theorem State.issue_commands (d : List Byte) : (s.issue d).commands = d :: s.commands := rfl
@[simp] theorem State.issue_exchangeAnswers (d : List Byte) : (s.issue d).exchangeAnswers = s.exchangeAnswers := rfl
@[simp] theorem State.issue_rfAnswers (d : List Byte) : (s.issue d).rfAnswers = s.rfAnswers := rfl
@[simp] theorem State.issue_freeCount (d : List Byte) : (s.issue d).freeCount = s.freeCount := rfl
@[simp] theorem State.issue_trace (d : List Byte) : (s.issue d).trace = s.trace := rfl
@[simp] theorem State.issue_params (d : List Byte) : (s.issue d).params = s.params := rfl

/-! ### exchanged -/

@[simp] theorem State.exchanged_initFlag (tx : List Byte) (cap : Nat) (rx : List Byte) (rest : List Answer) : (s.exchanged tx cap rx rest).initFlag = s.initFlag := rfl
@[simp] theorem State.exchanged_dtype (tx : List Byte) (cap : Nat) (rx : List Byte) (rest : List Answer) : (s.exchanged tx cap rx rest).dtype = s.dtype := rfl
@[simp] theorem State.exchanged_endPage (tx : List Byte) (cap : Nat) (rx : List Byte) (rest : List Answer) : (s.exchanged tx cap rx rest).endPage = s.endPage := rfl
@[simp] theorem State.exchanged_selState (tx : List Byte) (cap : Nat) (rx : List Byte) (rest : List Answer) : (s.exchanged tx cap rx rest).selState = s.selState := rfl
@[simp] theorem State.exchanged_crcReg (tx : List Byte) (cap : Nat) (rx : List Byte) (rest : List Answer) : (s.exchanged tx cap rx rest).crcReg = s.crcReg := rfl
@[simp] theorem State.exchanged_txBuf (tx : List Byte) (cap : Nat) (rx : List Byte) (rest : List Answer) : (s.exchanged tx cap rx rest).txBuf = fillBuffer s.txBuf tx := rfl
@[simp] theorem State.exchanged_txLen (tx : List Byte) (cap : Nat) (rx : List Byte) (rest : List Answer) : (s.exchanged tx cap rx rest).txLen = BitVec.ofNat 8 tx.length := rfl
@[simp] theorem State.exchanged_rxBuf (tx : List Byte) (cap : Nat) (rx : List Byte) (rest : List Answer) : (s.exchanged tx cap rx rest).rxBuf = fillBuffer s.rxBuf rx := rfl
@[simp] theorem State.exchanged_rxLen (tx : List Byte) (cap : Nat) (rx : List Byte) (rest : List Answer) : (s.exchanged tx cap rx rest).rxLen = BitVec.ofNat 8 rx.length := rfl
@[simp] theorem State.exchanged_status (tx : List Byte) (cap : Nat) (rx : List Byte) (rest : List Answer) : (s.exchanged tx cap rx rest).status = s.status := rfl
@[simp] theorem State.exchanged_outcome (tx : List Byte) (cap : Nat) (rx : List Byte) (rest : List Answer) : (s.exchanged tx cap rx rest).outcome = s.outcome := rfl
@[simp] theorem State.exchanged_result (tx : List Byte) (cap : Nat) (rx : List Byte) (rest : List Answer) : (s.exchanged tx cap rx rest).result = s.result := rfl
@[simp] theorem State.exchanged_resultLen (tx : List Byte) (cap : Nat) (rx : List Byte) (rest : List Answer) : (s.exchanged tx cap rx rest).resultLen = s.resultLen := rfl
@[simp] theorem State.exchanged_collabPresent (tx : List Byte) (cap : Nat) (rx : List Byte) (rest : List Answer) : (s.exchanged tx cap rx rest).collabPresent = s.collabPresent := rfl
@[simp] theorem State.exchanged_commands (tx : List Byte) (cap : Nat) (rx : List Byte) (rest : List Answer) : (s.exchanged tx cap rx rest).commands = s.commands := rfl
@[simp] theorem State.exchanged_exchangeAnswers (tx : List Byte) (cap : Nat) (rx : List Byte) (rest : List Answer) : (s.exchanged tx cap rx rest).exchangeAnswers = rest := rfl
@[simp] theorem State.exchanged_rfAnswers (tx : List Byte) (cap : Nat) (rx : List Byte) (rest : List Answer) : (s.exchanged tx cap rx rest).rfAnswers = s.rfAnswers := rfl
@[simp] theorem State.exchanged_freeCount (tx : List Byte) (cap : Nat) (rx : List Byte) (rest : List Answer) : (s.exchanged tx cap rx rest).freeCount = s.freeCount := rfl
@[simp] theorem State.exchanged_trace (tx : List Byte) (cap : Nat) (rx : List Byte) (rest : List Answer) : (s.exchanged tx cap rx rest).trace = s.trace ++ [.exchange tx cap] := rfl
@[simp] theorem State.exchanged_params (tx : List Byte) (cap : Nat) (rx : List Byte) (rest : List Answer) : (s.exchanged tx cap rx rest).params = s.params := rfl

/-! ### Updates by a whole exchange -/

@[simp] theorem State.exchangedCrc_initFlag (p : List Byte) (cap : Nat) (rx : List Byte) (rest : List Answer) : (s.exchangedCrc p cap rx rest).initFlag = s.initFlag := rfl
@[simp] theorem State.exchangedCrc_dtype (p : List Byte) (cap : Nat) (rx : List Byte) (rest : List Answer) : (s.exchangedCrc p cap rx rest).dtype = s.dtype := rfl
@[simp] theorem State.exchangedCrc_endPage (p : List Byte) (cap : Nat) (rx : List Byte) (rest : List Answer) : (s.exchangedCrc p cap rx rest).endPage = s.endPage := rfl
@[simp] theorem State.exchangedCrc_selState (p : List Byte) (cap : Nat) (rx : List Byte) (rest : List Answer) : (s.exchangedCrc p cap rx rest).selState = s.selState := rfl
@[simp] theorem State.exchangedCrc_status (p : List Byte) (cap : Nat) (rx : List Byte) (rest : List Answer) : (s.exchangedCrc p cap rx rest).status = s.status := rfl
@[simp] theorem State.exchangedCrc_outcome (p : List Byte) (cap : Nat) (rx : List Byte) (rest : List Answer) : (s.exchangedCrc p cap rx rest).outcome = s.outcome := rfl
@[simp] theorem State.exchangedCrc_result (p : List Byte) (cap : Nat) (rx : List Byte) (rest : List Answer) : (s.exchangedCrc p cap rx rest).result = s.result := rfl
@[simp] theorem State.exchangedCrc_resultLen (p : List Byte) (cap : Nat) (rx : List Byte) (rest : List Answer) : (s.exchangedCrc p cap rx rest).resultLen = s.resultLen := rfl
@[simp] theorem State.exchangedCrc_collabPresent (p : List Byte) (cap : Nat) (rx : List Byte) (rest : List Answer) : (s.exchangedCrc p cap rx rest).collabPresent = s.collabPresent := rfl
@[simp] theorem State.exchangedCrc_commands (p : List Byte) (cap : Nat) (rx : List Byte) (rest : List Answer) : (s.exchangedCrc p cap rx rest).commands = s.commands := rfl
@[simp] theorem State.exchangedCrc_rfAnswers (p : List Byte) (cap : Nat) (rx : List Byte) (rest : List Answer) : (s.exchangedCrc p cap rx rest).rfAnswers = s.rfAnswers := rfl
@[simp] theorem State.exchangedCrc_freeCount (p : List Byte) (cap : Nat) (rx : List Byte) (rest : List Answer) : (s.exchangedCrc p cap rx rest).freeCount = s.freeCount := rfl
@[simp] theorem State.exchangedCrc_params (p : List Byte) (cap : Nat) (rx : List Byte) (rest : List Answer) : (s.exchangedCrc p cap rx rest).params = s.params := rfl
@[simp] theorem State.exchangedCrc_exchangeAnswers (p : List Byte) (cap : Nat) (rx : List Byte) (rest : List Answer) : (s.exchangedCrc p cap rx rest).exchangeAnswers = rest := rfl
@[simp] theorem State.exchangedCrc_trace (p : List Byte) (cap : Nat) (rx : List Byte) (rest : List Answer) : (s.exchangedCrc p cap rx rest).trace = s.trace ++ [.exchange (frameWithCrc p) cap] := rfl

@[simp] theorem State.gotData_initFlag (p d : List Byte) (rest : List Answer) : (s.gotData p d rest).initFlag = s.initFlag := rfl
@[simp] theorem State.gotData_dtype (p d : List Byte) (rest : List Answer) : (s.gotData p d rest).dtype = s.dtype := rfl
@[simp] theorem State.gotData_endPage (p d : List Byte) (rest : List Answer) : (s.gotData p d rest).endPage = s.endPage := rfl
@[simp] theorem State.gotData_selState (p d : List Byte) (rest : List Answer) : (s.gotData p d rest).selState = s.selState := rfl
@[simp] theorem State.gotData_status (p d : List Byte) (rest : List Answer) : (s.gotData p d rest).status = s.status := rfl
@[simp] theorem State.gotData_outcome (p d : List Byte) (rest : List Answer) : (s.gotData p d rest).outcome = s.outcome := rfl
@[simp] theorem State.gotData_result (p d : List Byte) (rest : List Answer) : (s.gotData p d rest).result = s.result := rfl
@[simp] theorem State.gotData_resultLen (p d : List Byte) (rest : List Answer) : (s.gotData p d rest).resultLen = s.resultLen := rfl
@[simp] theorem State.gotData_collabPresent (p d : List Byte) (rest : List Answer) : (s.gotData p d rest).collabPresent = s.collabPresent := rfl
@[simp] theorem State.gotData_commands (p d : List Byte) (rest : List Answer) : (s.gotData p d rest).commands = s.commands := rfl
@[simp] theorem State.gotData_rfAnswers (p d : List Byte) (rest : List Answer) : (s.gotData p d rest).rfAnswers = s.rfAnswers := rfl
@[simp] theorem State.gotData_freeCount (p d : List Byte) (rest : List Answer) : (s.gotData p d rest).freeCount = s.freeCount := rfl
@[simp] theorem State.gotData_params (p d : List Byte) (rest : List Answer) : (s.gotData p d rest).params = s.params := rfl
@[simp] theorem State.gotData_exchangeAnswers (p d : List Byte) (rest : List Answer) : (s.gotData p d rest).exchangeAnswers = rest := rfl
@[simp] theorem State.gotData_trace (p d : List Byte) (rest : List Answer) : (s.gotData p d rest).trace = s.trace ++ [.exchange (frameWithCrc p) (d.length + 2)] := rfl

@[simp] theorem State.gotAck_initFlag (p : List Byte) (rest : List Answer) : (s.gotAck p rest).initFlag = s.initFlag := rfl
@[simp] theorem State.gotAck_dtype (p : List Byte) (rest : List Answer) : (s.gotAck p rest).dtype = s.dtype := rfl
@[simp] theorem State.gotAck_endPage (p : List Byte) (rest : List Answer) : (s.gotAck p rest).endPage = s.endPage := rfl
@[simp] theorem State.gotAck_selState (p : List Byte) (rest : List Answer) : (s.gotAck p rest).selState = s.selState := rfl
@[simp] theorem State.gotAck_status (p : List Byte) (rest : List Answer) : (s.gotAck p rest).status = s.status := rfl
@[simp] theorem State.gotAck_outcome (p : List Byte) (rest : List Answer) : (s.gotAck p rest).outcome = s.outcome := rfl
@[simp] theorem State.gotAck_result (p : List Byte) (rest : List Answer) : (s.gotAck p rest).result = s.result := rfl
@[simp] theorem State.gotAck_resultLen (p : List Byte) (rest : List Answer) : (s.gotAck p rest).resultLen = s.resultLen := rfl
@[simp] theorem State.gotAck_collabPresent (p : List Byte) (rest : List Answer) : (s.gotAck p rest).collabPresent = s.collabPresent := rfl
@[simp] theorem State.gotAck_commands (p : List Byte) (rest : List Answer) : (s.gotAck p rest).commands = s.commands := rfl
@[simp] theorem State.gotAck_rfAnswers (p : List Byte) (rest : List Answer) : (s.gotAck p rest).rfAnswers = s.rfAnswers := rfl
@[simp] theorem State.gotAck_freeCount (p : List Byte) (rest : List Answer) : (s.gotAck p rest).freeCount = s.freeCount := rfl
@[simp] theorem State.gotAck_params (p : List Byte) (rest : List Answer) : (s.gotAck p rest).params = s.params := rfl
@[simp] theorem State.gotAck_exchangeAnswers (p : List Byte) (rest : List Answer) : (s.gotAck p rest).exchangeAnswers = rest := rfl
@[simp] theorem State.gotAck_trace (p : List Byte) (rest : List Answer) : (s.gotAck p rest).trace = s.trace ++ [.exchange (frameWithCrc p) 1] := rfl

end Sys2Proof.Machine
end

