-- ==== Sys2Proof/Laws/Buffers.lean ====
section
/-! SUPPORT. The buffers: what a fill leaves, and that the frame, response and result read back are what was written. -/

namespace Sys2Proof.Machine

@[simp] theorem toList_fillBuffer {n : Nat} (buf : Vector Byte n) (bytes : List Byte) :
    (fillBuffer buf bytes).toList = bytes.take n ++ buf.toList.drop bytes.length := rfl

/-- What was written reads back. -/
theorem take_fillBuffer {n : Nat} (buf : Vector Byte n) (bytes : List Byte) (h : bytes.length ≤ n) :
    (fillBuffer buf bytes).toList.take bytes.length = bytes := by
  simp [List.take_of_length_le h]

theorem toNat_lengthByte {n : Nat} (h : n ≤ 255) : (BitVec.ofNat 8 n).toNat = n := by
  simp only [BitVec.toNat_ofNat]; omega

/-- A frame of at most 18 bytes is sent as it was built (10_state.md R37). -/
theorem State.txFrame_loadFrame (s : State) {tx : List Byte} (h : tx.length ≤ 18) : (s.loadFrame tx).txFrame = tx := by
  rw [State.txFrame, State.loadFrame_txLen, State.loadFrame_txBuf, toNat_lengthByte (by omega), take_fillBuffer _ _ h]

/-- A response of at most 255 bytes is received as it came (10_state.md R38). -/
theorem State.rxFrame_loadResponse (s : State) {rx : List Byte} (h : rx.length ≤ 255) :
    (s.loadResponse rx).rxFrame = rx := by
  rw [State.rxFrame, State.loadResponse_rxLen, State.loadResponse_rxBuf, toNat_lengthByte h, take_fillBuffer _ _ h]

/-- A result of at most 60 bytes reads back as it was written (10_state.md R41). -/
theorem State.resultBytes_setResult (s : State) {bytes : List Byte} (h : bytes.length ≤ 60) :
    (s.setResult bytes).resultBytes = bytes := by
  rw [State.resultBytes, State.setResult_resultLen, State.setResult_result, toNat_lengthByte (by omega),
    take_fillBuffer _ _ h]

theorem rxLenMax_le (p : Params) : p.rxLenMax.toNat ≤ 255 := by have := p.rxLenMax.isLt; omega

@[simp] theorem State.rxFrame_exchanged (s : State) (tx : List Byte) (cap : Nat) {rx : List Byte} (rest : List Answer)
    (h : rx.length ≤ s.params.rxLenMax.toNat) : (s.exchanged tx cap rx rest).rxFrame = rx :=
  State.rxFrame_loadResponse _ (Nat.le_trans h (rxLenMax_le _))

@[simp] theorem length_frameWithCrc (p : List Byte) : (frameWithCrc p).length = p.length + 2 := by
  simp [frameWithCrc, le16]

@[simp] theorem length_le16 (w : Word16) : (le16 w).length = 2 := rfl

@[simp] theorem length_quadBytes (q : Quad) : (quadBytes q).length = 4 := rfl

@[simp] theorem length_zeros (n : Nat) : (zeros n).length = n := by simp [zeros]

/-- The covered bytes of a frame with its CRC are its payload. -/
@[simp] theorem take_frameWithCrc (p : List Byte) : (frameWithCrc p).take p.length = p := by simp [frameWithCrc]

/-- The last two bytes of a frame with its CRC are the CRC of the payload, low byte first. -/
@[simp] theorem drop_frameWithCrc (p : List Byte) : (frameWithCrc p).drop p.length = le16 (crc16 p) := by
  simp [frameWithCrc]

end Sys2Proof.Machine
end

