-- ==== Sys2Proof/Laws/Ops.lean ====
section
/-! SUPPORT. What each shared operation can do, said once: on a listed answer exactly, and in every case. -/

namespace Sys2Proof.Machine

/-! ### Sequencing and endings -/

section Sequencing

variable {α β : Type}

@[simp] theorem Run.andThen_ok (a : α) (s : State) (k : α → State → Run β) : (Run.ok a s).andThen k = k a s := rfl

@[simp] theorem Run.andThen_raised (o : CmdOutcome) (s : State) (k : α → State → Run β) :
    (Run.raised o s).andThen k = .raised o s := rfl

@[simp] theorem Run.andThen_stuck (f : Fault) (k : α → State → Run β) :
    (Run.stuck f : Run α).andThen k = .stuck f := rfl

@[simp] theorem Run.onRaise_ok (a : α) (s : State) (w : State → State) : (Run.ok a s).onRaise w = .ok a s := rfl

@[simp] theorem Run.onRaise_raised (o : CmdOutcome) (s : State) (w : State → State) :
    (Run.raised o s : Run α).onRaise w = .raised o (w s) := rfl

@[simp] theorem Run.onRaise_stuck (f : Fault) (w : State → State) :
    (Run.stuck f : Run α).onRaise w = .stuck f := rfl

@[simp] theorem finish_ok (c : Opsel) (s : State) : finish c (.ok () s) = .next (s.ended (some c) .ok) := rfl

@[simp] theorem finish_raised (c : Opsel) (o : CmdOutcome) (s : State) :
    finish c (.raised o s) = .next (s.ended (some c) o) := rfl

@[simp] theorem finish_stuck (c : Opsel) (f : Fault) : finish c (.stuck f) = .fault f := rfl

end Sequencing

/-! ### The gate -/

/-- The gate passes with INIT_FLAG = 1 (41_frame_codec.md R142). -/
theorem gated_of_init (c : Opsel) {s : State} (body : State → Run Unit) (h : s.initFlag = true) :
    gated c s body = finish c (body s) := by simp [gated, requireInit, h]

/-- With INIT_FLAG = 0 a gated command ends NotInitialized and nothing else happens (41_frame_codec.md R142). -/
theorem gated_of_not_init (c : Opsel) {s : State} (body : State → Run Unit) (h : s.initFlag = false) :
    gated c s body = .next (s.ended (some c) .notInitialized) := by simp [gated, requireInit, h]

/-! ### Exchange -/

theorem deliverable_of_le {p : Params} {rx : List Byte} (h : rx.length ≤ p.rxLenMax.toNat) : deliverable p rx = rx :=
  List.take_of_length_le h

theorem length_deliverable (p : Params) (rx : List Byte) : (deliverable p rx).length ≤ p.rxLenMax.toNat := by
  simp [deliverable]

theorem nextAnswer_listed {s : State} {a : Answer} {rest : List Answer} (h : s.exchangeAnswers = a :: rest) :
    nextAnswer s = (a, { s with exchangeAnswers := rest }) := by simp [nextAnswer, h]

theorem nextAnswer_free {s : State} (h : s.exchangeAnswers = []) :
    nextAnswer s = (Config.freeAnswer s.freeCount, { s with freeCount := s.freeCount + 1 }) := by simp [nextAnswer, h]

/-- The frame an Exchange sends is the one it was given. -/
theorem exchange_eq {tx : List Byte} (cap : Nat) (s : State) (h : tx.length ≤ 18) :
    exchange tx cap s =
      match nextAnswer ((s.loadFrame tx).emit (.exchange tx cap)) with
      | (.returns st bytes, s) => .ok st (s.loadResponse (deliverable s.params bytes))
      | (.neverReturns, _) => .stuck .exchangeNeverReturns := by
  simp only [exchange, State.txFrame_loadFrame s h]
  try rfl

/-- Exchange with a listed answer. -/
theorem exchange_listed {tx : List Byte} (cap : Nat) {s : State} {st : Nat} {rx : List Byte} {rest : List Answer}
    (h : tx.length ≤ 18) (ha : s.exchangeAnswers = .returns st rx :: rest)
    (hr : rx.length ≤ s.params.rxLenMax.toNat) :
    exchange tx cap s = .ok st (s.exchanged tx cap rx rest) := by
  rw [exchange_eq cap s h, nextAnswer_listed (by exact ha)]
  simp only [State.emit_params, State.loadFrame_params, deliverable_of_le hr]
  rfl

/-- Exchange where the listed answer never comes (60_exceptions.md R352). -/
theorem exchange_never (tx : List Byte) (cap : Nat) {s : State} {rest : List Answer}
    (ha : s.exchangeAnswers = .neverReturns :: rest) : exchange tx cap s = .stuck .exchangeNeverReturns := by
  simp [exchange, nextAnswer, ha]

/-- Everything an Exchange can do: it never returns, or it comes back with a response of at most RX_LEN_MAX bytes and
leaves the exchanged state, its answer taken from the list or from the free values. -/
theorem exchange_cases {tx : List Byte} (cap : Nat) (s : State) (h : tx.length ≤ 18) :
    exchange tx cap s = .stuck .exchangeNeverReturns ∨
    ∃ st rx rest n, rx.length ≤ s.params.rxLenMax.toNat ∧
      exchange tx cap s = .ok st { s.exchanged tx cap rx rest with freeCount := n } := by
  rcases ha : s.exchangeAnswers with _ | ⟨_ | _, rest⟩
  · rw [exchange_eq cap s h, nextAnswer_free (by exact ha)]
    rcases hf : Config.freeAnswer s.freeCount with ⟨st, rx⟩ | _
    · refine .inr ⟨st, deliverable s.params rx, [], s.freeCount + 1, length_deliverable _ _, ?_⟩
      simp only [State.emit_freeCount, State.loadFrame_freeCount, hf, State.exchanged, State.loadResponse, ← ha]
      rfl
    · exact .inl (by simp only [State.emit_freeCount, State.loadFrame_freeCount, hf])
  · rename_i st rx
    refine .inr ⟨st, deliverable s.params rx, rest, s.freeCount, length_deliverable _ _, ?_⟩
    rw [exchange_eq cap s h, nextAnswer_listed (by exact ha)]
    rfl
  · exact .inl (exchange_never tx cap ha)

/-- Transact with a listed answer (41_frame_codec.md R143). -/
theorem transact_listed {tx : List Byte} (cap : Nat) {s : State} {st : Nat} {rx : List Byte} {rest : List Answer}
    (h : tx.length ≤ 18) (ha : s.exchangeAnswers = .returns st rx :: rest)
    (hr : rx.length ≤ s.params.rxLenMax.toNat) :
    transact tx cap s =
      if st ≠ 0 then .raised .transportFailed (s.exchanged tx cap rx rest) else .ok rx (s.exchanged tx cap rx rest) := by
  simp only [transact, exchange_listed cap h ha hr, Run.andThen_ok, State.rxFrame_exchanged s tx cap rest hr]

/-! ### Checks -/

theorem checkLen_eq {rx : List Byte} {n : Nat} (s : State) (h : rx.length = n) : checkLen rx n s = .ok () s := by
  simp [checkLen, h]

theorem checkLen_ne {rx : List Byte} {n : Nat} (s : State) (h : rx.length ≠ n) :
    checkLen rx n s = .raised .invalidResponseLength s := by
  simp [checkLen, h]

/-- A frame that carries its own CRC passes CheckCRC, and CRC_REG holds that CRC (41_frame_codec.md R145). -/
theorem checkCrc_self (p : List Byte) (s : State) : checkCrc (frameWithCrc p) s = .ok () (s.computeCrc p) := by
  simp [checkCrc]

/-- A W_CRC frame is its payload and the payload's CRC (41_frame_codec.md R140). -/
theorem withCrc_eq (p : List Byte) (s : State) : withCrc p s = .ok (frameWithCrc p) (s.computeCrc p) := rfl

/-! ### Data and acknowledged exchanges -/

/-- Everything a data exchange does with a listed answer: transport, then length, then CRC (41_frame_codec.md R152). -/
theorem transactData_listed {p : List Byte} (n : Nat) {s : State} {st : Nat} {rx : List Byte} {rest : List Answer}
    (hp : p.length ≤ 16) (ha : s.exchangeAnswers = .returns st rx :: rest)
    (hr : rx.length ≤ s.params.rxLenMax.toNat) :
    transactData p n s =
      if st ≠ 0 then .raised .transportFailed (s.exchangedCrc p (n + 2) rx rest)
      else if rx.length ≠ n + 2 then .raised .invalidResponseLength (s.exchangedCrc p (n + 2) rx rest)
      else if rx.drop n ≠ le16 (crc16 (rx.take n)) then
        .raised .checksumError ((s.exchangedCrc p (n + 2) rx rest).computeCrc (rx.take n))
      else .ok (rx.take n) ((s.exchangedCrc p (n + 2) rx rest).computeCrc (rx.take n)) := by
  have hl : (frameWithCrc p).length ≤ 18 := by simp; omega
  simp only [transactData, withCrc_eq, Run.andThen_ok]
  rw [transact_listed (s := s.computeCrc p) _ hl ha hr]
  by_cases h0 : st = 0 <;> simp [h0, State.exchangedCrc]
  by_cases hn : rx.length = n + 2 <;> simp [checkLen, hn, checkCrc]
  split <;> simp [*]

/-- A data exchange whose response carries its CRC gives the data (41_frame_codec.md R150, R156). -/
theorem transactData_good {p d : List Byte} {s : State} {rest : List Answer} (hp : p.length ≤ 16)
    (h : s.replies (frameWithCrc d) rest) : transactData p d.length s = .ok d (s.gotData p d rest) := by
  rw [transactData_listed _ hp h.1 h.2]
  simp [State.gotData]

/-- Everything an acknowledged exchange does with a listed answer: transport, then length, then the ACK
(41_frame_codec.md R152). -/
theorem transactAck_listed {p : List Byte} {s : State} {st : Nat} {rx : List Byte} {rest : List Answer}
    (hp : p.length ≤ 16) (ha : s.exchangeAnswers = .returns st rx :: rest)
    (hr : rx.length ≤ s.params.rxLenMax.toNat) :
    transactAck p s =
      if st ≠ 0 then .raised .transportFailed (s.exchangedCrc p 1 rx rest)
      else if rx.length ≠ 1 then .raised .invalidResponseLength (s.exchangedCrc p 1 rx rest)
      else if rx ≠ [ackByte] then .raised .ackError (s.exchangedCrc p 1 rx rest)
      else .ok () (s.exchangedCrc p 1 rx rest) := by
  have hl : (frameWithCrc p).length ≤ 18 := by simp; omega
  simp only [transactAck, withCrc_eq, Run.andThen_ok]
  rw [transact_listed (s := s.computeCrc p) _ hl ha hr]
  by_cases h0 : st = 0 <;> simp [h0, State.exchangedCrc]
  by_cases hn : rx.length = 1 <;> simp [checkLen, hn, checkAck]

/-- An exchange answered with the ACK byte goes on (41_frame_codec.md R146). -/
theorem transactAck_good {p : List Byte} {s : State} {rest : List Answer} (hp : p.length ≤ 16)
    (h : s.replies [0x0A#8] rest) : transactAck p s = .ok () (s.gotAck p rest) := by
  rw [transactAck_listed hp h.1 h.2]
  simp [State.gotAck, ackByte]

/-- A data exchange whose answer never comes (60_exceptions.md R352). -/
theorem transactData_never (p : List Byte) (n : Nat) {s : State} {rest : List Answer}
    (h : s.exchangeAnswers = .neverReturns :: rest) : transactData p n s = .stuck .exchangeNeverReturns := by
  simp only [transactData, withCrc_eq, Run.andThen_ok, transact]
  rw [exchange_never _ _ (by exact h)]
  rfl

/-- An acknowledged exchange whose answer never comes (60_exceptions.md R352). -/
theorem transactAck_never (p : List Byte) {s : State} {rest : List Answer}
    (h : s.exchangeAnswers = .neverReturns :: rest) : transactAck p s = .stuck .exchangeNeverReturns := by
  simp only [transactAck, withCrc_eq, Run.andThen_ok, transact]
  rw [exchange_never _ _ (by exact h)]
  rfl

/-! ### Pages and configuration fields -/

/-- ReadPageRaw answered with 16 bytes and their CRC (41_frame_codec.md R150). -/
theorem readPageRaw_good {s : State} {d : List Byte} {rest : List Answer} (p : Byte) (hd : d.length = 16)
    (h : s.replies (frameWithCrc d) rest) :
    readPageRaw p s = .ok d (s.gotData [s.params.wireOp.read, p] d rest) := by
  have key := transactData_good (p := [s.params.wireOp.read, p]) (by simp) h
  rwa [hd] at key

/-- WritePageRaw of four bytes answered with the ACK (41_frame_codec.md R151). -/
theorem writePageRaw_good {s : State} {d : List Byte} {rest : List Answer} (p : Byte) (hd : d.length = 4)
    (h : s.replies [0x0A#8] rest) :
    writePageRaw p d s = .ok () (s.gotAck ([s.params.wireOp.write, p] ++ d) rest) :=
  transactAck_good (by simp [hd]) h

@[simp] theorem length_setFieldByte (f : CfgField) (v : Byte) (d : List Byte) :
    (setFieldByte f v d).length = d.length := by simp [setFieldByte]

/-- CfgSet with its page read back well and its write acknowledged (46_config.md R301). -/
theorem cfgSet_good {s : State} {d : List Byte} {rest : List Answer} (f : Field) (v : Byte) (hd : d.length = 16)
    (h : s.repliesTwice (frameWithCrc d) [0x0A#8] rest) :
    cfgSet f v s = .ok () ((s.gotData [s.params.wireOp.read, fieldPage f s] d (.returns 0 [0x0A#8] :: rest)).gotAck
      ([s.params.wireOp.write, fieldPage f s] ++ setFieldByte (cfgFieldOf s.params f) v (d.take 4)) rest) := by
  obtain ⟨ha, h1, h2⟩ := h
  rw [cfgSet, readPageRaw_good _ hd ⟨ha, h1⟩, Run.andThen_ok]
  exact writePageRaw_good _ (by simp [pageBytes, hd]) ⟨rfl, h2⟩

/-- CfgGet with its page read back well (46_config.md R301). -/
theorem cfgGet_good {s : State} {d : List Byte} {rest : List Answer} (f : Field) (hd : d.length = 16)
    (h : s.replies (frameWithCrc d) rest) :
    cfgGet f s = .ok (fieldOfPage (cfgFieldOf s.params f) d) (s.gotData [s.params.wireOp.read, fieldPage f s] d rest) := by
  have hb : (d.take pageBytes).getD (cfgFieldOf s.params f).byteIx 0x00#8 = d.getD (cfgFieldOf s.params f).byteIx 0x00#8 := by
    simp [List.getD_eq_getElem?_getD, pageBytes, (cfgFieldOf s.params f).byteIx.isLt]
  rw [cfgGet, readPageRaw_good _ hd h, Run.andThen_ok]
  exact congrArg (Run.ok · _) (congrArg (extractField _) hb)

/-! ### Operand checks -/

theorem checkCascade_ok {s : State} (r : SelState) (h : s.params.enforceCascadeOrder = false ∨ s.selState = r) :
    checkCascade r s = .ok () s := by
  rcases h with h | h <;> simp [checkCascade, h]

theorem checkCascade_raised {s : State} {r : SelState} (h : s.params.enforceCascadeOrder = true) (hs : s.selState ≠ r) :
    checkCascade r s = .raised .sequenceError s := by simp [checkCascade, h, hs]

/-- Counter addresses 0, 1 and 2 are legal (45_counter_auth.md R270). -/
theorem checkCounterAddr_eq (a : Byte) (s : State) :
    checkCounterAddr a s = if a.toNat ≤ 2 then .ok () s else .raised .invalidAddress s := by
  by_cases h : a.toNat ≤ 2 <;> simp [checkCounterAddr, counterAddrMax, BitVec.lt_def, h]

theorem checkAtMost_eq (v max : Byte) (s : State) :
    checkAtMost v max s = if v.toNat ≤ max.toNat then .ok () s else .raised .invalidParameter s := by
  by_cases h : v.toNat ≤ max.toNat <;> simp [checkAtMost, BitVec.lt_def, h]

end Sys2Proof.Machine
end

