-- ==== Sys2Proof/Laws/Cases.lean ====
section
/-! SUPPORT. Everything each shared operation can do, whatever the transceiver answers: what it leaves when it goes on, and
what it leaves when it raises. -/

namespace Sys2Proof.Machine

/-- A run that goes on meets `ok`, one that raises meets `bad`; one that never ends meets both. -/
def Run.Meets {α : Type} (r : Run α) (ok : α → State → Prop) (bad : CmdOutcome → State → Prop) : Prop :=
  match r with
  | .ok a s => ok a s
  | .raised o s => bad o s
  | .stuck _ => True

/-- Only exchanges have happened between s and t: the working registers, the answers used up and the events es; the frame
and the response of a buffer fit it. -/
def Touched (s t : State) (es : List Event) : Prop :=
  ∃ crc txb txl rxb rxl ans n,
    t = { s with
      crcReg := crc, txBuf := txb, txLen := txl, rxBuf := rxb, rxLen := rxl, exchangeAnswers := ans, freeCount := n,
      trace := s.trace ++ es } ∧
    (txl = s.txLen ∨ txl.toNat ≤ 18) ∧ (rxl = s.rxLen ∨ rxl.toNat ≤ s.params.rxLenMax.toNat)

/-! ### Runs -/

section Runs

variable {α β : Type} {r : Run α} {ok ok' : α → State → Prop} {bad bad' : CmdOutcome → State → Prop}

theorem Run.Meets.mono (h : r.Meets ok bad) (h1 : ∀ a s, ok a s → ok' a s) (h2 : ∀ o s, bad o s → bad' o s) :
    r.Meets ok' bad' := by
  cases r <;> first | exact h1 _ _ h | exact h2 _ _ h | trivial

theorem Run.Meets.andThen {k : α → State → Run β} {ok' : β → State → Prop} (h : r.Meets ok bad)
    (hk : ∀ a s, ok a s → (k a s).Meets ok' bad) : (r.andThen k).Meets ok' bad := by
  cases r <;> first | exact hk _ _ h | exact h

theorem Run.Meets.onRaise {w : State → State} (h : r.Meets ok bad) (hw : ∀ o s, bad o s → bad' o (w s)) :
    (r.onRaise w).Meets ok bad' := by
  cases r <;> first | exact hw _ _ h | exact h

/-- A command that completes ended by return or by raise, and its run says with what. -/
theorem finish_next {c : Opsel} {r : Run Unit} {ok : Unit → State → Prop} {bad : CmdOutcome → State → Prop} {t : State}
    (h : finish c r = .next t) (hr : r.Meets ok bad) :
    (∃ s, ok () s ∧ t = s.ended (some c) .ok) ∨ ∃ o s, bad o s ∧ t = s.ended (some c) o := by
  rcases r with ⟨_, s⟩ | ⟨o, s⟩ | f <;> simp only [finish, Host.Outcome.next.injEq, reduceCtorEq] at h
  · exact .inl ⟨s, hr, h.symm⟩
  · exact .inr ⟨o, s, hr, h.symm⟩

/-- A gated command that completes: the gate refused it, or its body ran. -/
theorem gated_next {c : Opsel} {s t : State} {body : State → Run Unit} {ok : Unit → State → Prop}
    {bad : CmdOutcome → State → Prop} (h : gated c s body = .next t) (hr : (body s).Meets ok bad) :
    (s.initFlag = false ∧ t = s.ended (some c) .notInitialized) ∨
    s.initFlag = true ∧ ((∃ u, ok () u ∧ t = u.ended (some c) .ok) ∨ ∃ o u, bad o u ∧ t = u.ended (some c) o) := by
  cases hi : s.initFlag
  · rw [gated_of_not_init c body hi, Host.Outcome.next.injEq] at h
    exact .inl ⟨rfl, h.symm⟩
  · rw [gated_of_init c body hi] at h
    exact .inr ⟨rfl, finish_next h hr⟩

/-- Where no run of the body is stuck but by an exchange that never returns, neither is the command. -/
theorem finish_stops (c : Opsel) (r : Run Unit) :
    (∃ t o, finish c r = .next t ∧ t.outcome = some o) ∨ finish c r = .fault .exchangeNeverReturns := by
  rcases r with ⟨_, s⟩ | ⟨o, s⟩ | ⟨_⟩
  · exact .inl ⟨_, _, rfl, rfl⟩
  · exact .inl ⟨_, _, rfl, rfl⟩
  · exact .inr rfl

end Runs

/-! ### What exchanges touch -/

section Touched

variable {s t u : State} {es fs : List Event}

theorem Touched.refl (s : State) : Touched s s [] := ⟨_, _, _, _, _, _, _, by simp; rfl, .inl rfl, .inl rfl⟩

theorem Touched.trans (h : Touched s t es) (h' : Touched t u fs) : Touched s u (es ++ fs) := by
  obtain ⟨_, _, _, _, _, _, _, rfl, h1, h2⟩ := h
  obtain ⟨_, _, _, _, _, _, _, rfl, h3, h4⟩ := h'
  refine ⟨_, _, _, _, _, _, _, by rw [← List.append_assoc], ?_, ?_⟩
  · rcases h3 with rfl | h3
    · exact h1
    · exact .inr h3
  · rcases h4 with rfl | h4
    · exact h2
    · exact .inr h4

theorem Touched.computeCrc (h : Touched s t es) (bytes : List Byte) : Touched s (t.computeCrc bytes) es := by
  obtain ⟨_, _, _, _, _, _, _, rfl, h1, h2⟩ := h
  exact ⟨_, _, _, _, _, _, _, rfl, h1, h2⟩

theorem touched_computeCrc (s : State) (bytes : List Byte) : Touched s (s.computeCrc bytes) [] :=
  (Touched.refl s).computeCrc bytes

theorem touched_exchanged {tx rx : List Byte} (cap : Nat) (rest : List Answer) (n : Nat) (h : tx.length ≤ 18)
    (hr : rx.length ≤ s.params.rxLenMax.toNat) :
    Touched s { s.exchanged tx cap rx rest with freeCount := n } [.exchange tx cap] := by
  refine ⟨_, _, _, _, _, _, _, rfl, .inr ?_, .inr ?_⟩
  · exact (toNat_lengthByte (by omega : tx.length ≤ 255)).trans_le h
  · exact (toNat_lengthByte (Nat.le_trans hr (rxLenMax_le _))).trans_le hr

end Touched

/-! ### Operations -/

/-- The outcomes a data exchange can raise (41_frame_codec.md R152). -/
def dataFailure (o : CmdOutcome) : Prop := o = .transportFailed ∨ o = .invalidResponseLength ∨ o = .checksumError

/-- The outcomes an acknowledged exchange can raise (41_frame_codec.md R152). -/
def ackFailure (o : CmdOutcome) : Prop := o = .transportFailed ∨ o = .invalidResponseLength ∨ o = .ackError

/-- Transact: one event, and TransportFailed is all it raises (41_frame_codec.md R143). -/
theorem transact_cases {tx : List Byte} (cap : Nat) (s : State) (h : tx.length ≤ 18) :
    (transact tx cap s).Meets (fun rx t => Touched s t [.exchange tx cap] ∧ rx.length ≤ s.params.rxLenMax.toNat)
      (fun o t => o = .transportFailed ∧ Touched s t [.exchange tx cap]) := by
  rcases exchange_cases cap s h with he | ⟨st, rx, rest, n, hr, he⟩
  · simp [transact, he, Run.Meets]
  · have ht := touched_exchanged (s := s) cap rest n h hr
    by_cases h0 : st = 0
    · simp only [transact, he, Run.andThen_ok, h0, ne_eq, not_true_eq_false, if_false, Run.Meets]
      refine ⟨ht, ?_⟩
      have hx : ({ s.exchanged tx cap rx rest with freeCount := n } : State).rxFrame = rx :=
        State.rxFrame_exchanged s tx cap rest hr
      rw [hx]; exact hr
    · simp only [transact, he, Run.andThen_ok, ne_eq, h0, not_false_eq_true, if_true, Run.Meets, true_and]
      exact ht

theorem checkLen_cases (rx : List Byte) (n : Nat) (s : State) :
    (checkLen rx n s).Meets (fun _ t => t = s ∧ rx.length = n) (fun o t => o = .invalidResponseLength ∧ t = s) := by
  by_cases h : rx.length = n <;> simp [checkLen, h, Run.Meets]

theorem checkCrc_cases (rx : List Byte) (s : State) :
    (checkCrc rx s).Meets (fun _ t => t = s.computeCrc (rx.take (rx.length - 2)))
      (fun o t => o = .checksumError ∧ t = s.computeCrc (rx.take (rx.length - 2))) := by
  by_cases h : rx.drop (rx.length - 2) = le16 (crc16 (rx.take (rx.length - 2))) <;> simp [checkCrc, h, Run.Meets]

theorem checkAck_cases (rx : List Byte) (s : State) :
    (checkAck rx s).Meets (fun _ t => t = s ∧ rx = [0x0A#8]) (fun o t => o = .ackError ∧ t = s) := by
  by_cases h : rx = [0x0A#8] <;> simp [checkAck, ackByte, h, Run.Meets]

theorem checkBcc_cases (rx : List Byte) (s : State) :
    (checkBcc rx s).Meets (fun _ t => t = s) (fun o t => o = .checksumError ∧ t = s) := by
  unfold checkBcc; split <;> simp [Run.Meets]

theorem checkSak_cases (rx : List Byte) (e : Byte) (s : State) :
    (checkSak rx e s).Meets (fun _ t => t = s ∧ rx = [e]) (fun o t => o = .sakError ∧ t = s) := by
  by_cases h : rx = [e] <;> simp [checkSak, h, Run.Meets]

theorem checkAtqa_cases (rx : List Byte) (s : State) :
    (checkAtqa rx s).Meets (fun _ t => t = s ∧ rx = atqaUl) (fun o t => o = .typeInvalid ∧ t = s) := by
  by_cases h : rx = atqaUl <;> simp [checkAtqa, h, Run.Meets]

/-- CheckCascade changes nothing; it raises only with the switch on and another SEL_STATE (43_selection.md R207). -/
theorem checkCascade_cases (r : SelState) (s : State) :
    (checkCascade r s).Meets (fun _ t => t = s)
      (fun o t => o = .sequenceError ∧ t = s ∧ s.params.enforceCascadeOrder = true ∧ s.selState ≠ r) := by
  by_cases h : s.params.enforceCascadeOrder = true ∧ s.selState ≠ r <;> simp [checkCascade, h, Run.Meets]

theorem checkCounterAddr_cases (a : Byte) (s : State) :
    (checkCounterAddr a s).Meets (fun _ t => t = s ∧ a.toNat ≤ 2) (fun o t => o = .invalidAddress ∧ t = s) := by
  rw [checkCounterAddr_eq]; split <;> simp_all [Run.Meets]

theorem checkAtMost_cases (v max : Byte) (s : State) :
    (checkAtMost v max s).Meets (fun _ t => t = s ∧ v.toNat ≤ max.toNat) (fun o t => o = .invalidParameter ∧ t = s) := by
  rw [checkAtMost_eq]; split <;> simp_all [Run.Meets]

/-- A data exchange makes one event, gives n bytes, and raises only a transport, length or checksum outcome
(41_frame_codec.md R152). -/
theorem transactData_cases {p : List Byte} (n : Nat) (s : State) (h : p.length ≤ 16) :
    (transactData p n s).Meets
      (fun d t => Touched s t [.exchange (frameWithCrc p) (n + 2)] ∧ d.length = n)
      (fun o t => dataFailure o ∧ Touched s t [.exchange (frameWithCrc p) (n + 2)]) := by
  have hl : (frameWithCrc p).length ≤ 18 := by simp; omega
  rw [transactData, withCrc_eq, Run.andThen_ok]
  refine ((transact_cases (n + 2) (s.computeCrc p) hl).mono (fun _ _ x => x) ?_).andThen fun rx t ⟨ht, _⟩ => ?_
  · rintro o t ⟨rfl, ht⟩; exact ⟨.inl rfl, (touched_computeCrc s p).trans ht⟩
  have ht := (touched_computeCrc s p).trans ht
  refine ((checkLen_cases rx (n + 2) t).mono (fun _ _ x => x) ?_).andThen ?_
  · rintro o t ⟨rfl, rfl⟩; exact ⟨.inr (.inl rfl), ht⟩
  rintro _ t ⟨rfl, hn⟩
  refine ((checkCrc_cases rx t).mono (fun _ _ x => x) ?_).andThen ?_
  · rintro o t ⟨rfl, rfl⟩; exact ⟨.inr (.inr rfl), ht.computeCrc _⟩
  rintro _ t rfl
  exact ⟨ht.computeCrc _, by simp [hn]⟩

/-- An acknowledged exchange makes one event and raises only a transport, length or ACK outcome (41_frame_codec.md R152). -/
theorem transactAck_cases {p : List Byte} (s : State) (h : p.length ≤ 16) :
    (transactAck p s).Meets (fun _ t => Touched s t [.exchange (frameWithCrc p) 1])
      (fun o t => ackFailure o ∧ Touched s t [.exchange (frameWithCrc p) 1]) := by
  have hl : (frameWithCrc p).length ≤ 18 := by simp; omega
  rw [transactAck, withCrc_eq, Run.andThen_ok]
  refine ((transact_cases 1 (s.computeCrc p) hl).mono (fun _ _ x => x) ?_).andThen fun rx t ⟨ht, _⟩ => ?_
  · rintro o t ⟨rfl, ht⟩; exact ⟨.inl rfl, (touched_computeCrc s p).trans ht⟩
  have ht := (touched_computeCrc s p).trans ht
  refine ((checkLen_cases rx 1 t).mono (fun _ _ x => x) ?_).andThen ?_
  · rintro o t ⟨rfl, rfl⟩; exact ⟨.inr (.inl rfl), ht⟩
  rintro _ t ⟨rfl, hn⟩
  refine (checkAck_cases rx t).mono ?_ ?_
  · rintro _ t ⟨rfl, _⟩; exact ht
  · rintro o t ⟨rfl, rfl⟩; exact ⟨.inr (.inr rfl), ht⟩

theorem readPageRaw_cases (p : Byte) (s : State) :
    (readPageRaw p s).Meets
      (fun d t => Touched s t [.exchange (frameWithCrc [s.params.wireOp.read, p]) 18] ∧ d.length = 16)
      (fun o t => dataFailure o ∧ Touched s t [.exchange (frameWithCrc [s.params.wireOp.read, p]) 18]) :=
  transactData_cases 16 s (by simp)

theorem writePageRaw_cases {d : List Byte} (p : Byte) (s : State) (hd : d.length = 4) :
    (writePageRaw p d s).Meets
      (fun _ t => Touched s t [.exchange (frameWithCrc ([s.params.wireOp.write, p] ++ d)) 1])
      (fun o t => ackFailure o ∧ Touched s t [.exchange (frameWithCrc ([s.params.wireOp.write, p] ++ d)) 1]) :=
  transactAck_cases s (by simp [hd])

end Sys2Proof.Machine
end

