-- ==== Sys2Proof/Laws/FirstStep.lean ====
section
/-! SUPPORT. The commands that make an exchange, taken apart at their first one: what they do before it, which frame they
send, and what the checks of its response raise. -/

namespace Sys2Proof.Machine

/-- How a wire command is built from its first exchange: it sends the frame from the state u, goes on with k, and makes its
failure-path writes w on a raise. -/
structure FirstStep (i : Instr) (s : State) (tx : List Byte) (cap : Nat) (u : State) (w : State → State)
    (k : List Byte → State → Run Unit) : Prop where
  exec_eq : exec i s = finish i.opsel (((transact tx cap u).andThen k).onRaise w)
  tx_le : tx.length ≤ 18
  answers : u.exchangeAnswers = s.exchangeAnswers
  params : u.params = s.params
  failed : ∀ (rx : List Byte) (rest : List Answer) (crc : Word16),
    (w { u.exchanged tx cap rx rest with crcReg := crc }).observed =
      ({ s.afterFailure i with
        trace := s.trace ++ eventsBefore s i ++ [.exchange tx cap], exchangeAnswers := rest } : State).observed
  buffers : ∀ t : State, (w t).txFrame = t.txFrame ∧ (w t).rxFrame = t.rxFrame ∧ (w t).params = t.params
  checks : ∀ (rx : List Byte) (t : State) (o : CmdOutcome), responseError cap rx i = some o →
    ∃ crc, k rx t = .raised o { t with crcReg := crc }

theorem Run.andThen_assoc {α β γ : Type} (r : Run α) (k : α → State → Run β) (l : β → State → Run γ) :
    (r.andThen k).andThen l = r.andThen fun a s => (k a s).andThen l := by cases r <;> rfl

theorem Run.onRaise_id {α : Type} (r : Run α) : r.onRaise (fun s => s) = r := by cases r <;> rfl

/-! ### What follows the first Transact -/

/-- The rest of a data exchange after its Transact. -/
def dataChecks (n : Nat) (rx : List Byte) (s : State) : Run (List Byte) :=
  (checkLen rx (n + 2) s).andThen fun _ s =>
  (checkCrc rx s).andThen fun _ s =>
  .ok (rx.take n) s

/-- The rest of an acknowledged exchange after its Transact. -/
def ackChecks (rx : List Byte) (s : State) : Run Unit := (checkLen rx 1 s).andThen fun _ s => checkAck rx s

/-- The rest of REQUEST and WAKE_UP. -/
def atqaChecks (rx : List Byte) (s : State) : Run Unit :=
  ((checkLen rx 2 s).andThen fun _ s => checkAtqa rx s).andThen fun _ s =>
  .ok () (({ s with dtype := .ultralight } : State).setResult [0x01#8])

/-- The rest of the anti-collision commands. -/
def idChecks (rx : List Byte) (s : State) : Run Unit :=
  (checkLen rx 5 s).andThen fun _ s => (checkBcc rx s).andThen fun _ s => .ok () (s.setResult (rx.take 4))

/-- The rest of the SELECT commands. -/
def sakChecks (sak : Byte) (done : SelState) (rx : List Byte) (s : State) : Run Unit :=
  (checkLen rx 1 s).andThen fun _ s =>
  (checkSak rx sak s).andThen fun _ s =>
  .ok () (({ s with selState := done } : State).setResult rx)

theorem transactData_eq (p : List Byte) (n : Nat) (s : State) :
    transactData p n s = (transact (frameWithCrc p) (n + 2) (s.computeCrc p)).andThen (dataChecks n) := rfl

theorem transactAck_eq (p : List Byte) (s : State) :
    transactAck p s = (transact (frameWithCrc p) 1 (s.computeCrc p)).andThen ackChecks := rfl

theorem requestTag_eq (op : Byte) (s : State) :
    requestTag op s = ((transact [op] 2 s).andThen atqaChecks).onRaise State.invalidate := by
  simp only [requestTag]
  cases transact [op] 2 s with
  | ok rx t =>
    simp only [Run.andThen_ok, atqaChecks]
    rcases checkLen rx 2 t <;> simp
    rcases checkAtqa rx _ <;> simp [tagTypeCode]
  | raised o t => rfl
  | stuck f => rfl

theorem cfgSet_eq (f : Field) (v : Byte) (s : State) :
    ∃ k, cfgSet f v s = (transactData [s.params.wireOp.read, fieldPage f s] 16 s).andThen k := ⟨_, rfl⟩

theorem getField_eq (f : Field) (s : State) :
    ∃ k, getField f s = (transactData [s.params.wireOp.read, fieldPage f s] 16 s).andThen k := by
  refine ⟨fun d t => .ok () (t.setResult [fieldOfPage (cfgFieldOf t.params f) (d.take pageBytes)]), ?_⟩
  rw [getField, cfgGet, Run.andThen_assoc]; rfl

/-! ### What the checks raise -/

theorem dataChecks_ok {n : Nat} {rx : List Byte} (t : State) (hl : rx.length = n + 2)
    (hc : rx.drop n = le16 (crc16 (rx.take n))) :
    dataChecks n rx t = .ok (rx.take n) (t.computeCrc (rx.take n)) := by
  simp [dataChecks, checkLen, hl, checkCrc, hc]

theorem dataChecks_length {n : Nat} {rx : List Byte} (t : State) (hl : rx.length ≠ n + 2) :
    dataChecks n rx t = .raised .invalidResponseLength t := by simp [dataChecks, checkLen, hl]

theorem dataChecks_crc {n : Nat} {rx : List Byte} (t : State) (hl : rx.length = n + 2)
    (hc : rx.drop n ≠ le16 (crc16 (rx.take n))) :
    dataChecks n rx t = .raised .checksumError (t.computeCrc (rx.take n)) := by
  simp [dataChecks, checkLen, hl, checkCrc, hc]

theorem ackChecks_raised {rx : List Byte} {o : CmdOutcome} (t : State)
    (h : (if rx.length ≠ 1 then some CmdOutcome.invalidResponseLength
      else if rx = [0x0A#8] then none else some .ackError) = some o) : ackChecks rx t = .raised o t := by
  by_cases hl : rx.length = 1 <;> by_cases hx : rx = [0x0A#8] <;>
    simp_all [ackChecks, checkLen, checkAck, ackByte]

theorem atqaChecks_raised {rx : List Byte} {o : CmdOutcome} (t : State)
    (h : (if rx.length ≠ 2 then some CmdOutcome.invalidResponseLength
      else if rx = [0x44#8, 0x00#8] then none else some .typeInvalid) = some o) : atqaChecks rx t = .raised o t := by
  by_cases hl : rx.length = 2 <;> by_cases hx : rx = [0x44#8, 0x00#8] <;>
    simp_all [atqaChecks, checkLen, checkAtqa, atqaUl]

theorem sakChecks_raised {rx : List Byte} {o : CmdOutcome} {sak : Byte} {done : SelState} (t : State)
    (h : (if rx.length ≠ 1 then some CmdOutcome.invalidResponseLength
      else if rx = [sak] then none else some .sakError) = some o) : sakChecks sak done rx t = .raised o t := by
  by_cases hl : rx.length = 1 <;> by_cases hx : rx = [sak] <;> simp_all [sakChecks, checkLen, checkSak]

theorem idChecks_raised {rx : List Byte} {o : CmdOutcome} {i : Instr} (t : State)
    (hi : i = .anticollCl1 ∨ i = .anticollCl2) (h : responseError 5 rx i = some o) : idChecks rx t = .raised o t := by
  have h' : (if rx.length ≠ 5 then some CmdOutcome.invalidResponseLength
      else if rx.getD 4 0#8 = rx.getD 0 0#8 ^^^ rx.getD 1 0#8 ^^^ rx.getD 2 0#8 ^^^ rx.getD 3 0#8 then none
      else some .checksumError) = some o := by
    rcases hi with rfl | rfl <;> simpa [responseError, firstResponseHasCrc, contentError] using h
  split at h'
  · cases h'; rename_i hl; simp [idChecks, checkLen, hl]
  · rename_i hl
    split at h' <;> cases h'
    rename_i hb
    have hb' : rx.getD 4 0#8 ≠ bcc ⟨rx.getD 0 0#8, rx.getD 1 0#8, rx.getD 2 0#8, rx.getD 3 0#8⟩ := hb
    simp only [idChecks, checkLen, hl, if_false, Run.andThen_ok, checkBcc]
    rw [if_pos hb']; rfl

/-- A first response that carries a CRC is examined no further, but for the pack of AUTHENTICATE. -/
theorem contentError_data {i : Instr} (hc : firstResponseHasCrc i = true) (ha : i.opsel ≠ .authenticate)
    (rx : List Byte) : contentError rx i = none := by
  cases i <;> first | (simp_all [contentError, firstResponseIsAck, Instr.opsel]; done) | cases hc

/-! ### Building a first step -/

/-- A command that begins with a data exchange. -/
theorem FirstStep.ofData {i : Instr} {s : State} (p : List Byte) (n : Nat) (k : List Byte → State → Run Unit)
    (he : exec i s = finish i.opsel ((transactData p n s).andThen k)) (hp : p.length ≤ 16)
    (hw : s.afterFailure i = s) (hb : eventsBefore s i = []) (hcrc : firstResponseHasCrc i = true)
    (hc : ∀ rx (t : State) o, contentError rx i = some o → k (rx.take n) t = .raised o t) :
    FirstStep i s (frameWithCrc p) (n + 2) (s.computeCrc p) (fun t => t)
      (fun rx t => (dataChecks n rx t).andThen k) where
  exec_eq := by rw [he, transactData_eq, Run.andThen_assoc, Run.onRaise_id]
  tx_le := by simp; omega
  answers := rfl
  params := rfl
  failed := by intro rx rest crc; rw [hw, hb, List.append_nil]; rfl
  buffers := fun t => ⟨rfl, rfl, rfl⟩
  checks := by
    intro rx t o h
    have hh : i ≠ .halt := by rintro rfl; cases hcrc
    simp only [responseError, hh, if_false, hcrc, true_and, Nat.add_sub_cancel] at h
    by_cases hl : rx.length = n + 2
    · rw [if_neg (by simp [hl])] at h
      by_cases hx : rx.drop n = le16 (crc16 (rx.take n))
      · rw [if_neg (by simp [hx])] at h
        exact ⟨crc16 (rx.take n), by rw [dataChecks_ok t hl hx, Run.andThen_ok, hc rx _ o h]; rfl⟩
      · rw [if_pos hx] at h; cases h
        exact ⟨crc16 (rx.take n), by rw [dataChecks_crc t hl hx]; rfl⟩
    · rw [if_pos hl] at h; cases h
      exact ⟨t.crcReg, by rw [dataChecks_length t hl]; rfl⟩

/-- A command that begins with a data exchange and asks no more of its response than length and CRC. -/
theorem FirstStep.ofRead {i : Instr} {s : State} (p : List Byte) (n : Nat) (k : List Byte → State → Run Unit)
    (he : exec i s = finish i.opsel ((transactData p n s).andThen k)) (hp : p.length ≤ 16 := by simp)
    (hw : s.afterFailure i = s := by rfl) (hb : eventsBefore s i = [] := by rfl)
    (hcrc : firstResponseHasCrc i = true := by rfl) (ha : i.opsel ≠ .authenticate := by simp [Instr.opsel]) :
    FirstStep i s (frameWithCrc p) (n + 2) (s.computeCrc p) (fun t => t)
      (fun rx t => (dataChecks n rx t).andThen k) :=
  .ofData p n k he hp hw hb hcrc fun rx _ _ h => by rw [contentError_data hcrc ha rx] at h; cases h

/-- A command that begins with an acknowledged exchange. -/
theorem FirstStep.ofAck {i : Instr} {s : State} (p : List Byte) (k : Unit → State → Run Unit)
    (he : exec i s = finish i.opsel ((transactAck p s).andThen k)) (hp : p.length ≤ 16 := by simp)
    (hw : s.afterFailure i = s := by rfl) (hb : eventsBefore s i = [] := by rfl)
    (ha : firstResponseIsAck i = true := by rfl) :
    FirstStep i s (frameWithCrc p) 1 (s.computeCrc p) (fun t => t) (fun rx t => (ackChecks rx t).andThen k) where
  exec_eq := by rw [he, transactAck_eq, Run.andThen_assoc, Run.onRaise_id]
  tx_le := by simp; omega
  answers := rfl
  params := rfl
  failed := by intro rx rest crc; rw [hw, hb, List.append_nil]; rfl
  buffers := fun t => ⟨rfl, rfl, rfl⟩
  checks := by
    intro rx t o h
    refine ⟨t.crcReg, congrArg (Run.andThen · k) (ackChecks_raised (o := o) t ?_)⟩
    cases i <;> first | simpa [responseError, firstResponseHasCrc, contentError, firstResponseIsAck] using h | cases ha

/-! ### Operand checks that pass -/

theorem operandError_cascade {s : State} {i : Instr} (h : operandError s i = none)
    (hi : i = .anticollCl2 ∨ ∃ id, i = .selectCl2 id) : checkCascade .cl1Done s = .ok () s := by
  have h' : ¬ (s.params.enforceCascadeOrder = true ∧ s.selState ≠ .cl1Done) := by
    rcases hi with rfl | ⟨id, rfl⟩ <;> (intro hc; simp [operandError, hc] at h)
  simp only [checkCascade, h', if_false]

theorem operandError_counter {s : State} {a : Byte}
    (h : (if a.toNat ≤ 2 then none else some CmdOutcome.invalidAddress) = none) : checkCounterAddr a s = .ok () s := by
  rw [checkCounterAddr_eq]; split at h
  · rename_i hh; rw [if_pos hh]
  · cases h

theorem operandError_atMost {s : State} {v m : Byte}
    (h : (if v.toNat ≤ m.toNat then none else some CmdOutcome.invalidParameter) = none) :
    checkAtMost v m s = .ok () s := by
  rw [checkAtMost_eq]; split at h
  · rename_i hh; rw [if_pos hh]
  · cases h

theorem operandError_fastRead {s : State} {start stop : Byte} {cap : Word16}
    (h : operandError s (.fastRead start stop cap) = none) : checkFastRead start stop cap s = .ok () s := by
  simp only [operandError] at h
  split at h; cases h
  split at h; cases h
  split at h; cases h
  rename_i h1 h2 h3
  have g1 : ¬ stop < start := by rw [BitVec.lt_def]; exact h1
  have g2 : ¬ fastReadMaxPages < pageCount start stop := h2
  have g3 : ¬ cap.toNat < 4 * pageCount start stop := h3
  simp only [checkFastRead, g1, g2, g3, if_false]

/-- A selector of an access bit names PROT or CFGLCK (46_config.md R308). -/
theorem accessField_le {which : Byte} (h : which.toNat ≤ 1) :
    accessField which = some (if which = 0x00#8 then .prot else .cfglck) := by
  by_cases h0 : which = 0x00#8
  · subst h0; rfl
  · have h1 : which = 0x01#8 := by
      apply BitVec.eq_of_toNat_eq
      have : which.toNat ≠ 0 := fun h => h0 (BitVec.eq_of_toNat_eq h)
      show which.toNat = 1
      omega
    subst h1; rfl

/-- A configuration SET with legal operands is CfgSet of its field (46_config.md R304, R306, R308, R310, R312). -/
theorem exec_configWrite {i : Instr} {s : State} {f : Field} {v : Byte} (hi : s.initFlag = true)
    (ho : operandError s i = none) (h : configWrite i = some (f, v)) :
    exec i s = finish i.opsel (cfgSet f v s) := by
  cases i <;> simp only [configWrite, reduceCtorEq, Option.some.injEq, Prod.mk.injEq] at h <;> obtain ⟨rfl, rfl⟩ := h
  case setModulation => simp only [exec, execSetModulation, gated_of_init _ _ hi, operandError_atMost (m := 1#8) ho]; rfl
  case setAuthLimit => simp only [exec, execSetAuthLimit, gated_of_init _ _ hi, operandError_atMost (m := 7#8) ho]; rfl
  case setProtectStart => simp only [exec, execSetProtectStart, gated_of_init _ _ hi]; rfl
  case setVctid => simp only [exec, execSetVctid, gated_of_init _ _ hi]; rfl
  case setAccess =>
    simp only [operandError] at ho
    split at ho
    · rename_i hw
      simp only [exec, execSetAccess, gated_of_init _ _ hi, accessField_le hw.1]
      rw [checkAtMost_eq, if_pos (by exact hw.2)]; rfl
    · cases ho

/-! ### Every wire command has a first step -/

theorem firstStep_exists {i : Instr} {s : State} {tx : List Byte} {cap : Nat} (hi : s.initFlag = true)
    (ho : operandError s i = none) (hf : firstExchange s i = some (tx, cap)) :
    ∃ u w k, FirstStep i s tx cap u w k := by
  have hg {x : Instr} {b : State → Run Unit} {p : List Byte} {k : List Byte → State → Run Unit}
      (h1 : exec x s = gated x.opsel s b) (h2 : b s = (transactData p 16 s).andThen k) :
      exec x s = finish x.opsel ((transactData p 16 s).andThen k) := by rw [h1, gated_of_init _ _ hi, h2]
  cases i <;> simp only [firstExchange, reduceCtorEq, Option.some.injEq, Prod.mk.injEq] at hf <;> obtain ⟨rfl, rfl⟩ := hf
  case request =>
    refine ⟨s.deselect, State.invalidate, atqaChecks, ?_, by simp, rfl, rfl, ?_, fun t => ⟨rfl, rfl, rfl⟩, ?_⟩
    · simp only [exec, execRequest, gated_of_init _ _ hi, requestTag_eq]; rfl
    · intro rx rest crc; simp [eventsBefore]; rfl
    · exact fun rx t o h =>
        ⟨t.crcReg, atqaChecks_raised t (by simpa [responseError, firstResponseHasCrc, contentError] using h)⟩
  case wakeUp =>
    refine ⟨delayMs s.params.wupaDelayMs s.deselect, State.invalidate, atqaChecks, ?_, by simp, rfl, rfl, ?_,
      fun t => ⟨rfl, rfl, rfl⟩, ?_⟩
    · simp only [exec, execWakeUp, gated_of_init _ _ hi, requestTag_eq]; rfl
    · intro rx rest crc; rfl
    · exact fun rx t o h =>
        ⟨t.crcReg, atqaChecks_raised t (by simpa [responseError, firstResponseHasCrc, contentError] using h)⟩
  case halt =>
    cases hc : s.params.haltAppendCrc
    · refine ⟨s.deselect, fun t => t, fun _ s => .ok () s, ?_, by simp, rfl, rfl, ?_, fun t => ⟨rfl, rfl, rfl⟩, ?_⟩
      · simp only [exec, execHalt, gated_of_init _ _ hi, haltFrame, State.deselect_params, hc, Run.onRaise_id]; rfl
      · intro rx rest crc; simp [eventsBefore]; rfl
      · intro rx t o h; simp [responseError] at h
    · refine ⟨s.deselect.computeCrc [s.params.wireOp.hlta0, s.params.wireOp.hlta1], fun t => t, fun _ s => .ok () s, ?_,
        by simp, rfl, rfl, ?_, fun t => ⟨rfl, rfl, rfl⟩, ?_⟩
      · simp only [exec, execHalt, gated_of_init _ _ hi, haltFrame, State.deselect_params, hc, Run.onRaise_id,
          withCrc_eq]
        rfl
      · intro rx rest crc; simp [eventsBefore]; rfl
      · intro rx t o h; simp [responseError] at h
  case anticollCl1 =>
    refine ⟨s, fun t => t, idChecks, ?_, by simp, rfl, rfl, ?_, fun t => ⟨rfl, rfl, rfl⟩, ?_⟩
    · simp only [exec, execAnticollCl1, gated_of_init _ _ hi, anticollision, Run.onRaise_id]; rfl
    · intro rx rest crc; simp [eventsBefore]; rfl
    · exact fun rx t o h => ⟨t.crcReg, idChecks_raised t (.inl rfl) h⟩
  case anticollCl2 =>
    refine ⟨s, fun t => t, idChecks, ?_, by simp, rfl, rfl, ?_, fun t => ⟨rfl, rfl, rfl⟩, ?_⟩
    · simp only [exec, execAnticollCl2, gated_of_init _ _ hi, operandError_cascade ho (.inl rfl), anticollision,
        Run.onRaise_id]
      rfl
    · intro rx rest crc; simp [eventsBefore]; rfl
    · exact fun rx t o h => ⟨t.crcReg, idChecks_raised t (.inr rfl) h⟩
  case selectCl1 id =>
    refine ⟨s.computeCrc (selectPayload s.params.wireOp.selectCl1First s.params.wireOp.selectCl1Second id),
      State.deselect, sakChecks sakCl1 .cl1Done, ?_, by simp, rfl, rfl, ?_, fun t => ⟨rfl, rfl, rfl⟩, ?_⟩
    · simp only [exec, execSelectCl1, gated_of_init _ _ hi, selectLevel]; rfl
    · intro rx rest crc; simp [eventsBefore]; rfl
    · exact fun rx t o h => ⟨t.crcReg, sakChecks_raised (sak := 0x04#8) t
        (by simpa [responseError, firstResponseHasCrc, contentError] using h)⟩
  case selectCl2 id =>
    refine ⟨s.computeCrc (selectPayload s.params.wireOp.selectCl2First s.params.wireOp.selectCl2Second id),
      State.deselect, sakChecks sakCl2 .cl2Done, ?_, by simp, rfl, rfl, ?_, fun t => ⟨rfl, rfl, rfl⟩, ?_⟩
    · simp only [exec, execSelectCl2, gated_of_init _ _ hi, operandError_cascade ho (.inr ⟨_, rfl⟩), selectLevel]; rfl
    · intro rx rest crc; simp [eventsBefore]; rfl
    · exact fun rx t o h => ⟨t.crcReg, sakChecks_raised (sak := 0x00#8) t
        (by simpa [responseError, firstResponseHasCrc, contentError] using h)⟩
  case getVersion => exact ⟨_, _, _, .ofRead [_] 8 _ (gated_of_init _ _ hi)⟩
  case readPage p => exact ⟨_, _, _, .ofRead [_, _] 16 _ (gated_of_init _ _ hi)⟩
  case readFourPages p => exact ⟨_, _, _, .ofRead [_, _] 16 _ (gated_of_init _ _ hi)⟩
  case readSerial => exact ⟨_, _, _, .ofRead [_, _] 16 _ (gated_of_init _ _ hi)⟩
  case otpRead => exact ⟨_, _, _, .ofRead [_, _] 16 _ (gated_of_init _ _ hi)⟩
  case readSignature => exact ⟨_, _, _, .ofRead [_, _] 32 _ (gated_of_init _ _ hi)⟩
  case getLock => exact ⟨_, _, _, .ofRead [_, _] 16 _ (gated_of_init _ _ hi)⟩
  case fastRead a b c =>
    refine ⟨_, _, _, .ofRead [_, _, _] (4 * pageCount a b) (fun d s => .ok () (s.setResult d)) ?_⟩
    simp only [exec, execFastRead, gated_of_init _ _ hi, operandError_fastRead ho]; rfl
  case readCounter a =>
    refine ⟨_, _, _, .ofRead [_, _] 3 (fun d s => .ok () (s.setResult (d ++ [0x00#8]))) ?_⟩
    simp only [exec, execReadCounter, gated_of_init _ _ hi, operandError_counter ho]; rfl
  case checkTearing a =>
    refine ⟨_, _, _, .ofRead [_, _] 1 (fun d s => .ok () (s.setResult d)) ?_⟩
    simp only [exec, execCheckTearing, gated_of_init _ _ hi, operandError_counter ho]; rfl
  case authenticate pwd k0 k1 =>
    refine ⟨_, _, _, .ofData (_ :: quadBytes pwd) 2 _ (gated_of_init _ _ hi) (by simp) rfl rfl rfl ?_⟩
    intro rx t o h
    simp only [contentError] at h
    split at h <;> cases h
    rename_i hne
    simp [hne]
  case writePage p d =>
    refine ⟨_, _, _, .ofAck ([_, _] ++ quadBytes d) (fun _ s => .ok () s) ?_⟩
    simp only [exec, execWritePage, gated_of_init _ _ hi]
    rw [writePageRaw]; cases transactAck _ s <;> rfl
  case otpWrite d =>
    refine ⟨_, _, _, .ofAck ([_, _] ++ quadBytes d) (fun _ s => .ok () s) ?_⟩
    simp only [exec, execOtpWrite, gated_of_init _ _ hi]
    rw [writePageRaw]; cases transactAck _ s <;> rfl
  case compWrite p d => exact ⟨_, _, _, .ofAck [_, _] _ (gated_of_init _ _ hi)⟩
  case setPasswordPack pwd k0 k1 =>
    exact ⟨_, _, _, .ofAck ([s.params.wireOp.write, s.endPage - 1#8] ++ quadBytes pwd)
      (fun _ s => writePageRaw s.endPage [k0, k1, 0x00#8, 0x00#8] s) (gated_of_init _ _ hi)⟩
  case setLock l0 l1 l2 l3 l4 =>
    exact ⟨_, _, _, .ofAck [s.params.wireOp.write, s.params.lockLowPage, 0x00#8, 0x00#8, l0, l1]
      (fun _ s => writePageRaw (pageAt s.endPage offDynLock) [l2, l3, l4, 0x00#8] s) (gated_of_init _ _ hi)⟩
  case incrementCounter a v =>
    refine ⟨_, _, _, .ofAck ([_, _] ++ le24 v ++ [_]) (fun _ s => .ok () s) ?_ (by simp [le24])⟩
    simp only [exec, execIncrementCounter, gated_of_init _ _ hi, operandError_counter ho, Run.andThen_ok,
      incrementPayload]
    cases transactAck _ s <;> rfl
  case setModulation m =>
    obtain ⟨k, hk⟩ := cfgSet_eq .mod m s
    refine ⟨_, _, _, .ofRead [_, _] 16 k ?_⟩
    simp only [exec, execSetModulation, gated_of_init _ _ hi, operandError_atMost (m := 1#8) ho, Run.andThen_ok, hk]; rfl
  case setAuthLimit m =>
    obtain ⟨k, hk⟩ := cfgSet_eq .authlim m s
    refine ⟨_, _, _, .ofRead [_, _] 16 k ?_⟩
    simp only [exec, execSetAuthLimit, gated_of_init _ _ hi, operandError_atMost (m := 7#8) ho, Run.andThen_ok, hk]; rfl
  case setProtectStart m =>
    obtain ⟨k, hk⟩ := cfgSet_eq .auth0 m s
    exact ⟨_, _, _, .ofRead [_, _] 16 k (hg rfl hk)⟩
  case setVctid m =>
    obtain ⟨k, hk⟩ := cfgSet_eq .vctid m s
    exact ⟨_, _, _, .ofRead [_, _] 16 k (hg rfl hk)⟩
  case getModulation =>
    obtain ⟨k, hk⟩ := getField_eq .mod s
    exact ⟨_, _, _, .ofRead [_, _] 16 k (hg rfl hk)⟩
  case getProtectStart =>
    obtain ⟨k, hk⟩ := getField_eq .auth0 s
    exact ⟨_, _, _, .ofRead [_, _] 16 k (hg rfl hk)⟩
  case getAuthLimit =>
    obtain ⟨k, hk⟩ := getField_eq .authlim s
    exact ⟨_, _, _, .ofRead [_, _] 16 k (hg rfl hk)⟩
  case getVctid =>
    obtain ⟨k, hk⟩ := getField_eq .vctid s
    exact ⟨_, _, _, .ofRead [_, _] 16 k (hg rfl hk)⟩
  case setAccess which enable =>
    simp only [operandError] at ho
    split at ho
    · rename_i hw
      obtain ⟨k, hk⟩ := cfgSet_eq (if which = 0x00#8 then .prot else .cfglck) enable s
      refine ⟨_, _, _, .ofRead [_, _] 16 k ?_⟩
      simp only [exec, execSetAccess, gated_of_init _ _ hi, accessField_le hw.1]
      rw [checkAtMost_eq, if_pos (by exact hw.2)]; simp only [Run.andThen_ok, hk]; rfl
    · cases ho
  case getAccess which =>
    simp only [operandError] at ho
    split at ho
    · rename_i hw
      obtain ⟨k, hk⟩ := getField_eq (if which = 0x00#8 then .prot else .cfglck) s
      refine ⟨_, _, _, .ofRead [_, _] 16 k ?_⟩
      simp only [exec, execGetAccess, gated_of_init _ _ hi, accessField_le hw, hk]; rfl
    · cases ho

end Sys2Proof.Machine
end

