-- ==== Sys2Proof/Laws/PerInstr.lean ====
section
/-! SUPPORT. Families of statements made per instruction: one lemma per constructor of Instr. -/

open Sys2Proof

/-- The descriptor of a well-formed command begins with its OPSEL and has the length of its format (30_encoding.md R80, R81,
R84). -/
def Sys2Proof.Laws.EncodeShape.Statement (i : Instr) : Prop :=
  i.wf = true →
    (encode i).head? = some (opselCode i.opsel) ∧
    (encode i).length = formatLength ((encode i).getD 1 0x00#8) (formatOf i.opsel)

namespace Sys2Proof.Laws.EncodeShape

/-- The one format whose length its count byte sets (30_encoding.md R81, H_CRC). -/
theorem length_of_count {n : Nat} (h : n ≤ 255) : n + 2 = 2 + (BitVec.ofNat 8 n).toNat := by
  rw [BitVec.toNat_ofNat]; omega

theorem init : Statement .init := fun _ => ⟨rfl, rfl⟩
theorem deinit : Statement .deinit := fun _ => ⟨rfl, rfl⟩
theorem info : Statement .info := fun _ => ⟨rfl, rfl⟩
theorem setStorage (e : Byte) : Statement (.setStorage e) := fun _ => ⟨rfl, rfl⟩
theorem getStorage : Statement .getStorage := fun _ => ⟨rfl, rfl⟩
theorem crc16 (data : List Byte) : Statement (.crc16 data) := fun h =>
  ⟨rfl, length_of_count (by simpa [Instr.wf] using h)⟩
theorem crcCheck (data : List Byte) : Statement (.crcCheck data) := fun h =>
  ⟨rfl, length_of_count (by simpa [Instr.wf] using h)⟩
theorem request : Statement .request := fun _ => ⟨rfl, rfl⟩
theorem wakeUp : Statement .wakeUp := fun _ => ⟨rfl, rfl⟩
theorem halt : Statement .halt := fun _ => ⟨rfl, rfl⟩
theorem anticollCl1 : Statement .anticollCl1 := fun _ => ⟨rfl, rfl⟩
theorem selectCl1 (id : Quad) : Statement (.selectCl1 id) := fun _ => ⟨rfl, rfl⟩
theorem anticollCl2 : Statement .anticollCl2 := fun _ => ⟨rfl, rfl⟩
theorem selectCl2 (id : Quad) : Statement (.selectCl2 id) := fun _ => ⟨rfl, rfl⟩
theorem getVersion : Statement .getVersion := fun _ => ⟨rfl, rfl⟩
theorem readPage (p : Byte) : Statement (.readPage p) := fun _ => ⟨rfl, rfl⟩
theorem readFourPages (p : Byte) : Statement (.readFourPages p) := fun _ => ⟨rfl, rfl⟩
theorem fastRead (start stop : Byte) (cap : Word16) : Statement (.fastRead start stop cap) := fun _ => ⟨rfl, rfl⟩
theorem writePage (p : Byte) (d : Quad) : Statement (.writePage p d) := fun _ => ⟨rfl, rfl⟩
theorem compWrite (p : Byte) (d : Quad) : Statement (.compWrite p d) := fun _ => ⟨rfl, rfl⟩
theorem readSerial : Statement .readSerial := fun _ => ⟨rfl, rfl⟩
theorem otpRead : Statement .otpRead := fun _ => ⟨rfl, rfl⟩
theorem otpWrite (d : Quad) : Statement (.otpWrite d) := fun _ => ⟨rfl, rfl⟩
theorem readSignature : Statement .readSignature := fun _ => ⟨rfl, rfl⟩
theorem readCounter (a : Byte) : Statement (.readCounter a) := fun _ => ⟨rfl, rfl⟩
theorem incrementCounter (a : Byte) (v : BitVec 32) : Statement (.incrementCounter a v) := fun _ => ⟨rfl, rfl⟩
theorem checkTearing (a : Byte) : Statement (.checkTearing a) := fun _ => ⟨rfl, rfl⟩
theorem authenticate (pwd : Quad) (k0 k1 : Byte) : Statement (.authenticate pwd k0 k1) := fun _ => ⟨rfl, rfl⟩
theorem setPasswordPack (pwd : Quad) (k0 k1 : Byte) : Statement (.setPasswordPack pwd k0 k1) := fun _ => ⟨rfl, rfl⟩
theorem setLock (l0 l1 l2 l3 l4 : Byte) : Statement (.setLock l0 l1 l2 l3 l4) := fun _ => ⟨rfl, rfl⟩
theorem getLock : Statement .getLock := fun _ => ⟨rfl, rfl⟩
theorem setModulation (m : Byte) : Statement (.setModulation m) := fun _ => ⟨rfl, rfl⟩
theorem getModulation : Statement .getModulation := fun _ => ⟨rfl, rfl⟩
theorem setProtectStart (p : Byte) : Statement (.setProtectStart p) := fun _ => ⟨rfl, rfl⟩
theorem getProtectStart : Statement .getProtectStart := fun _ => ⟨rfl, rfl⟩
theorem setAccess (which enable : Byte) : Statement (.setAccess which enable) := fun _ => ⟨rfl, rfl⟩
theorem getAccess (which : Byte) : Statement (.getAccess which) := fun _ => ⟨rfl, rfl⟩
theorem setAuthLimit (l : Byte) : Statement (.setAuthLimit l) := fun _ => ⟨rfl, rfl⟩
theorem getAuthLimit : Statement .getAuthLimit := fun _ => ⟨rfl, rfl⟩
theorem setVctid (v : Byte) : Statement (.setVctid v) := fun _ => ⟨rfl, rfl⟩
theorem getVctid : Statement .getVctid := fun _ => ⟨rfl, rfl⟩

end Sys2Proof.Laws.EncodeShape
end

