-- ==== Sys2Proof/Laws/Selection.lean ====
section
/-! SUPPORT. The shared bodies of the selection commands, answered with an accepted response, and the step of a host
sequence. -/

namespace Sys2Proof.Machine

/-- REQUEST's and WAKE_UP's body answered with the Ultralight ATQA (43_selection.md R200). -/
theorem requestTag_good {s : State} {rest : List Answer} (op : Byte) (h : s.replies [0x44#8, 0x00#8] rest) :
    requestTag op s =
      .ok () (({ s.exchanged [op] 2 [0x44#8, 0x00#8] rest with dtype := .ultralight } : State).setResult [0x01#8]) := by
  rw [requestTag, transact_listed _ (by simp) h.1 h.2]
  simp [checkLen, checkAtqa, atqaUl, tagTypeCode]

/-- The body of the anti-collision commands answered with an id and its check byte (43_selection.md R203). -/
theorem anticollision_good {s : State} {rest : List Answer} (op0 op1 : Byte) (id : Quad)
    (h : s.replies (quadBytes id ++ [bcc id]) rest) :
    anticollision op0 op1 s =
      .ok () ((s.exchanged [op0, op1] 5 (quadBytes id ++ [bcc id]) rest).setResult (quadBytes id)) := by
  rw [anticollision, transact_listed _ (by simp) h.1 h.2]
  simp [checkLen, checkBcc, quadBytes, bcc]

/-- The body of the SELECT commands answered with the expected SAK (43_selection.md R204). -/
theorem selectLevel_good {s : State} {rest : List Answer} (op0 op1 : Byte) (id : Quad) (sak : Byte) (done : SelState)
    (h : s.replies [sak] rest) :
    selectLevel op0 op1 id sak done s =
      .ok () (({ s.exchangedCrc (selectPayload op0 op1 id) 1 [sak] rest with selState := done } : State).setResult
        [sak]) := by
  simp only [selectLevel, withCrc_eq, Run.andThen_ok]
  rw [transact_listed (s := s.computeCrc (selectPayload op0 op1 id)) _ (by simp [selectPayload]) h.1 h.2]
  simp [checkLen, checkSak, State.exchangedCrc]

/-- The next command of a host sequence runs after an Ok, and its bytes are kept after an Ok of its own (30_encoding.md
R88). -/
theorem ifOk_next {s t : State} {id : List Byte} {issue : State → Host.Outcome State Fault Refusal}
    {keep : State → List Byte} (hs : s.outcome = some .ok) (h : issue s = .next t) :
    ifOk (.next (s, id)) issue keep = .next (t, if t.outcome = some .ok then id ++ keep t else id) := by
  simp [ifOk, hs, h]

/-- After any other outcome the rest of a host sequence does nothing (30_encoding.md R88). -/
theorem ifOk_stop {s : State} {id : List Byte} {issue : State → Host.Outcome State Fault Refusal}
    {keep : State → List Byte} (hs : s.outcome ≠ some .ok) : ifOk (.next (s, id)) issue keep = .next (s, id) := by
  simp [ifOk, hs]

/-- A command that stops in a fault stops its host sequence with that fault (60_exceptions.md R352). -/
theorem ifOk_issue_fault {s : State} {id : List Byte} {issue : State → Host.Outcome State Fault Refusal}
    {keep : State → List Byte} {f : Fault} (hs : s.outcome = some .ok) (h : issue s = .fault f) :
    ifOk (.next (s, id)) issue keep = .fault f := by
  simp [ifOk, hs, h]

/-- After a fault the rest of a host sequence does nothing. -/
@[simp] theorem ifOk_fault (f : Fault) (issue : State → Host.Outcome State Fault Refusal) (keep : State → List Byte) :
    ifOk (.fault f) issue keep = .fault f := rfl

/-- RESULT[0..3] of a state whose RESULT is an id (30_encoding.md R88). -/
theorem resultQuad_eq {s : State} {q : Quad} (h : s.resultBytes = quadBytes q) : resultQuad s = q := by
  simp [resultQuad, h, quadBytes]

end Sys2Proof.Machine
end

