-- ==== Sys2Proof/Tests/Slice0.lean ====
section
/-! SUPPORT. Tests: the well-formedness checks, the decoding of written-out descriptors, vectors of 95_test_vectors.md (the
expected values are the file's, V-CRC-3 is test_v_crc_3), and a witness for the hypotheses of every statement. -/

open Sys2Proof Sys2Proof.Machine

namespace Sys2Proof.Tests

-- One theorem after another: some two hundred kernel evaluations at once would each hold a thread.
set_option Elab.async false

/-! ### Well-formedness -/

theorem test_wf_crc16_longest : (Instr.crc16 (List.replicate 255 0x00#8)).wf = true := by decide +kernel

theorem test_wf_crc16_too_long : (Instr.crc16 (List.replicate 256 0x00#8)).wf = false := by decide +kernel

theorem test_wf_crcCheck_too_long : (Instr.crcCheck (List.replicate 256 0x00#8)).wf = false := by decide +kernel

/-! ### Decoding, every command (30_encoding.md R81 to R83) -/

theorem test_decode_session :
    decode [0x00#8] = .ok .init ∧ decode [0x01#8] = .ok .deinit ∧ decode [0x02#8] = .ok .info ∧
    decode [0x03#8, 0x28#8] = .ok (.setStorage 0x28#8) ∧ decode [0x04#8] = .ok .getStorage := by decide

theorem test_decode_crc :
    decode [0x08#8, 0x02#8, 0x12#8, 0x34#8] = .ok (.crc16 [0x12#8, 0x34#8]) ∧ decode [0x08#8, 0x00#8] = .ok (.crc16 []) ∧
    decode [0x09#8, 0x03#8, 0x60#8, 0xF8#8, 0x32#8] = .ok (.crcCheck [0x60#8, 0xF8#8, 0x32#8]) := by decide

theorem test_decode_selection :
    decode [0x10#8] = .ok .request ∧ decode [0x11#8] = .ok .wakeUp ∧ decode [0x12#8] = .ok .halt ∧
    decode [0x13#8] = .ok .anticollCl1 ∧
    decode [0x14#8, 0x88#8, 0x04#8, 0xA1#8, 0xB2#8] = .ok (.selectCl1 ⟨0x88#8, 0x04#8, 0xA1#8, 0xB2#8⟩) ∧
    decode [0x15#8] = .ok .anticollCl2 ∧
    decode [0x16#8, 0xC3#8, 0xD4#8, 0xE5#8, 0xF6#8] = .ok (.selectCl2 ⟨0xC3#8, 0xD4#8, 0xE5#8, 0xF6#8⟩) := by decide

theorem test_decode_memory :
    decode [0x20#8] = .ok .getVersion ∧ decode [0x21#8, 0x04#8] = .ok (.readPage 0x04#8) ∧
    decode [0x22#8, 0x05#8] = .ok (.readFourPages 0x05#8) ∧
    decode [0x23#8, 0x00#8, 0x03#8, 0x10#8, 0x01#8] = .ok (.fastRead 0x00#8 0x03#8 0x0110#16) ∧
    decode [0x24#8, 0x04#8, 0xDE#8, 0xAD#8, 0xBE#8, 0xEF#8] =
      .ok (.writePage 0x04#8 ⟨0xDE#8, 0xAD#8, 0xBE#8, 0xEF#8⟩) ∧
    decode [0x25#8, 0x06#8, 0x01#8, 0x02#8, 0x03#8, 0x04#8] =
      .ok (.compWrite 0x06#8 ⟨0x01#8, 0x02#8, 0x03#8, 0x04#8⟩) ∧
    decode [0x26#8] = .ok .readSerial ∧ decode [0x27#8] = .ok .otpRead ∧
    decode [0x28#8, 0x11#8, 0x22#8, 0x33#8, 0x44#8] = .ok (.otpWrite ⟨0x11#8, 0x22#8, 0x33#8, 0x44#8⟩) ∧
    decode [0x29#8] = .ok .readSignature := by decide

theorem test_decode_counter_auth :
    decode [0x30#8, 0x02#8] = .ok (.readCounter 0x02#8) ∧
    decode [0x31#8, 0x02#8, 0x2A#8, 0x0B#8, 0x0C#8, 0x0D#8] = .ok (.incrementCounter 0x02#8 0x0D0C0B2A#32) ∧
    decode [0x32#8, 0x01#8] = .ok (.checkTearing 0x01#8) ∧
    decode [0x33#8, 0x01#8, 0x02#8, 0x03#8, 0x04#8, 0x80#8, 0x81#8] =
      .ok (.authenticate ⟨0x01#8, 0x02#8, 0x03#8, 0x04#8⟩ 0x80#8 0x81#8) ∧
    decode [0x34#8, 0x01#8, 0x02#8, 0x03#8, 0x04#8, 0x80#8, 0x81#8] =
      .ok (.setPasswordPack ⟨0x01#8, 0x02#8, 0x03#8, 0x04#8⟩ 0x80#8 0x81#8) := by decide

theorem test_decode_config :
    decode [0x40#8, 0x0F#8, 0x00#8, 0x01#8, 0x02#8, 0x03#8] = .ok (.setLock 0x0F#8 0x00#8 0x01#8 0x02#8 0x03#8) ∧
    decode [0x41#8] = .ok .getLock ∧ decode [0x42#8, 0x01#8] = .ok (.setModulation 0x01#8) ∧
    decode [0x43#8] = .ok .getModulation ∧ decode [0x44#8, 0x10#8] = .ok (.setProtectStart 0x10#8) ∧
    decode [0x45#8] = .ok .getProtectStart ∧ decode [0x46#8, 0x01#8, 0x00#8] = .ok (.setAccess 0x01#8 0x00#8) ∧
    decode [0x47#8, 0x01#8] = .ok (.getAccess 0x01#8) ∧ decode [0x48#8, 0x07#8] = .ok (.setAuthLimit 0x07#8) ∧
    decode [0x49#8] = .ok .getAuthLimit ∧ decode [0x4A#8, 0x05#8] = .ok (.setVctid 0x05#8) ∧
    decode [0x4B#8] = .ok .getVctid := by decide

theorem test_decode_refuses :
    decode [] = .error .noBytes ∧ decode [0x05#8] = .error (.reservedOpsel 0x05#8) ∧
    decode [0xFF#8, 0x00#8] = .error (.reservedOpsel 0xFF#8) ∧ decode [0x04#8, 0x00#8] = .error (.wrongLength .getStorage 2) ∧
    decode [0x08#8, 0x03#8, 0x12#8, 0x34#8] = .error (.wrongLength .crc16 4) ∧
    decode [0x08#8] = .error (.wrongLength .crc16 1) ∧
    decode [0x14#8, 0x88#8, 0x04#8, 0xA1#8] = .error (.wrongLength .selectCl1 4) := by decide

/-- The table gives a row only its OPSEL; the operand bytes above it are zero. -/
theorem test_table_words :
    decodeTableWord 8 0x00 = some .init ∧ decodeTableWord 8 0x08 = some (.crc16 []) ∧
    decodeTableWord 8 0x23 = some (.fastRead 0x00#8 0x00#8 0x0000#16) ∧ decodeTableWord 16 0x2803 = some (.setStorage 0x28#8) ∧
    decodeTableWord 8 0x05 = none := by decide

theorem test_step_runs_table_word :
    step (State.reset.withFetchWord 8 0x04) = exec .getStorage State.reset := rfl

/-! ### Vectors of 95_test_vectors.md -/

/-- The parameters of the vectors: the defaults, with values for the two OPEN ones (V-SES-13). -/
def testParams : Params := { defaultParams with wupaDelayMs := 5, infoRecord := [0x4D#8, 0x46#8] }

/-- A state before INIT. -/
def powerOn (answers : List Answer) : State :=
  { State.reset with exchangeAnswers := answers, rfAnswers := [0], params := testParams }

/-- A state after INIT, with END_PAGE of the 41-page tag. -/
def ready (answers : List Answer) : State := { powerOn answers with initFlag := true, endPage := 0x28#8 }

/-- The frames among the events. -/
def framesOf (es : List Event) : List (List Byte) :=
  es.filterMap fun e => match e with | .exchange tx _ => some tx | .rfInit | .rfDeinit | .delayMs _ => none

/-- What a step answers: its outcome, STATUS, the result bytes and the frames sent. -/
def runOn (s : State) (c : List Byte) : Option (CmdOutcome × Byte × List Byte × List (List Byte)) :=
  match step { s with commands := [c] } with
  | .next t => t.outcome.map fun o => (o, t.status, t.resultBytes, framesOf t.trace)
  | .fault _ => none
  | .refused _ => none

theorem test_v_crc_3 : runOn (ready []) [0x08#8, 0x02#8, 0x12#8, 0x34#8] = some (.ok, 0#8, [0x26#8, 0xCF#8], [])
  := by decide +kernel

theorem test_v_crc_9 : runOn (ready []) [0x08#8, 0x03#8, 0x12#8, 0x34#8] = some (.illegalCommand, 255#8, [], [])
  := by decide +kernel

theorem test_v_crc_11 : runOn (ready []) [0x09#8, 0x03#8, 0x60#8, 0xF8#8, 0x32#8] = some (.ok, 0#8, [0xF8#8,
  0x32#8], []) := by decide +kernel

theorem test_v_crc_13 : runOn (ready []) [0x09#8, 0x03#8, 0x60#8, 0x32#8, 0xF8#8] = some (.checksumError, 5#8,
  [], []) := by decide +kernel

theorem test_v_ses_10 : runOn (ready []) [0x01#8] = some (.ok, 0#8, [], []) := by decide +kernel

theorem test_v_ses_12 : runOn (powerOn []) [0x01#8] = some (.notInitialized, 3#8, [], []) := by decide +kernel

theorem test_v_ses_13 : runOn (powerOn []) [0x02#8] = some (.ok, 0#8, [0x4D#8, 0x46#8], []) := by decide +kernel

theorem test_v_ses_14 : runOn (ready []) [0x03#8, 0x28#8] = some (.ok, 0#8, [], []) := by decide +kernel

theorem test_v_ses_16 : runOn (powerOn []) [0x03#8, 0x28#8] = some (.notInitialized, 3#8, [], []) :=
  by decide +kernel

theorem test_v_ses_18 : runOn { ready [] with endPage := 0x13#8 } [0x04#8] = some (.ok, 0#8, [0x13#8], []) :=
  by decide +kernel

theorem test_v_sel_1 : runOn (ready [.returns 0 [0x44#8, 0x00#8]]) [0x10#8] = some (.ok, 0#8, [0x01#8],
  [[0x26#8]]) := by decide +kernel

theorem test_v_sel_8 : runOn { ready [.returns 0 [0x44#8, 0x00#8]] with selState := .cl2Done } [0x11#8] = some
  (.ok, 0#8, [0x01#8], [[0x52#8]]) := by decide +kernel

theorem test_v_sel_9 : runOn (ready [.returns 0 [0x44#8, 0x01#8]]) [0x11#8] = some (.typeInvalid, 5#8, [],
  [[0x52#8]]) := by decide +kernel

theorem test_v_sel_13 : runOn { ready [.returns 0 []] with params := { testParams with haltAppendCrc := true } }
  [0x12#8] = some (.ok, 0#8, [], [[0x50#8, 0x00#8, 0x57#8, 0xCD#8]]) := by decide +kernel

theorem test_v_sel_14 : runOn (ready [.returns 0 [0x88#8, 0x04#8, 0xA1#8, 0xB2#8, 0x9F#8]]) [0x13#8] = some
  (.ok, 0#8, [0x88#8, 0x04#8, 0xA1#8, 0xB2#8], [[0x93#8, 0x20#8]]) := by decide +kernel

theorem test_v_sel_15 : runOn (ready [.returns 0 [0x88#8, 0x04#8, 0xA1#8, 0xB2#8, 0x00#8]]) [0x13#8] = some
  (.checksumError, 5#8, [], [[0x93#8, 0x20#8]]) := by decide +kernel

theorem test_v_sel_18 : runOn (ready [.returns 0 [0x04#8]]) [0x14#8, 0x88#8, 0x04#8, 0xA1#8, 0xB2#8] = some
  (.ok, 0#8, [0x04#8], [[0x93#8, 0x70#8, 0x88#8, 0x04#8, 0xA1#8, 0xB2#8, 0x9F#8, 0xAE#8, 0x4B#8]]) :=
  by decide +kernel

theorem test_v_sel_19 : runOn { ready [.returns 0 [0x00#8]] with selState := .cl1Done } [0x14#8, 0x88#8, 0x04#8,
  0xA1#8, 0xB2#8] = some (.sakError, 5#8, [], [[0x93#8, 0x70#8, 0x88#8, 0x04#8, 0xA1#8, 0xB2#8, 0x9F#8, 0xAE#8,
  0x4B#8]]) := by decide +kernel

theorem test_v_sel_21 : runOn { ready [.returns 0 [0xC3#8, 0xD4#8, 0xE5#8, 0xF6#8, 0x04#8]] with selState :=
  .cl1Done } [0x15#8] = some (.ok, 0#8, [0xC3#8, 0xD4#8, 0xE5#8, 0xF6#8], [[0x95#8, 0x20#8]]) := by decide +kernel

theorem test_v_sel_23 : runOn { ready [] with params := { testParams with enforceCascadeOrder := true } }
  [0x15#8] = some (.sequenceError, 7#8, [], []) := by decide +kernel

theorem test_v_sel_26 : runOn { ready [] with params := { testParams with enforceCascadeOrder := true } }
  [0x16#8, 0xC3#8, 0xD4#8, 0xE5#8, 0xF6#8] = some (.sequenceError, 7#8, [], []) := by decide +kernel

theorem test_v_mem_2 : runOn (ready [.returns 0 [0x00#8, 0x04#8, 0x03#8, 0x01#8, 0x01#8, 0x00#8, 0x0E#8, 0x03#8,
  0x45#8, 0x89#8]]) [0x20#8] = some (.ok, 0#8, [0x00#8, 0x04#8, 0x03#8, 0x01#8, 0x01#8, 0x00#8, 0x0E#8, 0x03#8],
  [[0x60#8, 0xF8#8, 0x32#8]]) := by decide +kernel

theorem test_v_mem_7 : runOn (ready [.returns 0 [0x00#8, 0x01#8, 0x02#8, 0x03#8, 0x04#8, 0x05#8, 0x06#8, 0x07#8,
  0x08#8, 0x09#8, 0x0A#8, 0x0B#8, 0x0C#8, 0x0D#8, 0x0E#8, 0x0F#8, 0x77#8, 0xF5#8]]) [0x21#8, 0x04#8] = some (.ok,
  0#8, [0x00#8, 0x01#8, 0x02#8, 0x03#8], [[0x30#8, 0x04#8, 0x26#8, 0xEE#8]]) := by decide +kernel

theorem test_v_mem_11 : runOn (ready [.returns 0 [0x00#8, 0x01#8, 0x02#8, 0x03#8, 0x04#8, 0x05#8, 0x06#8,
  0x07#8, 0x08#8, 0x09#8, 0x0A#8, 0x0B#8, 0x0C#8, 0x0D#8, 0x0E#8, 0x0F#8, 0x77#8, 0xF5#8]]) [0x22#8, 0x04#8] =
  some (.ok, 0#8, [0x00#8, 0x01#8, 0x02#8, 0x03#8, 0x04#8, 0x05#8, 0x06#8, 0x07#8, 0x08#8, 0x09#8, 0x0A#8, 0x0B#8,
  0x0C#8, 0x0D#8, 0x0E#8, 0x0F#8], [[0x30#8, 0x04#8, 0x26#8, 0xEE#8]]) := by decide +kernel

theorem test_v_mem_12 : runOn (ready [.returns 0 [0x10#8, 0x11#8, 0x12#8, 0x13#8, 0x14#8, 0x15#8, 0x16#8,
  0x17#8, 0x2E#8, 0x6F#8]]) [0x23#8, 0x04#8, 0x05#8, 0x08#8, 0x00#8] = some (.ok, 0#8, [0x10#8, 0x11#8, 0x12#8,
  0x13#8, 0x14#8, 0x15#8, 0x16#8, 0x17#8], [[0x3A#8, 0x04#8, 0x05#8, 0x0D#8, 0x60#8]]) := by decide +kernel

theorem test_v_mem_21 : runOn (ready [.returns 0 [0x00#8, 0x01#8, 0x02#8, 0x03#8, 0x04#8, 0x05#8, 0x06#8,
  0x07#8, 0x08#8, 0x09#8, 0x0A#8, 0x0B#8, 0x0C#8, 0x0D#8, 0x0E#8, 0x0F#8, 0x77#8, 0xF6#8]]) [0x23#8, 0x00#8,
  0x03#8, 0x10#8, 0x00#8] = some (.checksumError, 8#8, [], [[0x3A#8, 0x00#8, 0x03#8, 0x5B#8, 0x62#8]]) :=
  by decide +kernel

theorem test_v_mem_23 : runOn (ready [.returns 0 [0x0A#8]]) [0x24#8, 0x04#8, 0xDE#8, 0xAD#8, 0xBE#8, 0xEF#8] =
  some (.ok, 0#8, [], [[0xA2#8, 0x04#8, 0xDE#8, 0xAD#8, 0xBE#8, 0xEF#8, 0x22#8, 0x8B#8]]) := by decide +kernel

theorem test_v_mem_24 : runOn (ready [.returns 0 [0x05#8]]) [0x24#8, 0x04#8, 0xDE#8, 0xAD#8, 0xBE#8, 0xEF#8] =
  some (.ackError, 6#8, [], [[0xA2#8, 0x04#8, 0xDE#8, 0xAD#8, 0xBE#8, 0xEF#8, 0x22#8, 0x8B#8]]) :=
  by decide +kernel

theorem test_v_mem_26 : runOn (ready [.returns 0 [0x0A#8], .returns 0 [0x0A#8]]) [0x25#8, 0x04#8, 0xDE#8,
  0xAD#8, 0xBE#8, 0xEF#8] = some (.ok, 0#8, [], [[0xA0#8, 0x04#8, 0x7B#8, 0xF7#8], [0xDE#8, 0xAD#8, 0xBE#8,
  0xEF#8, 0x00#8, 0x00#8, 0x00#8, 0x00#8, 0x00#8, 0x00#8, 0x00#8, 0x00#8, 0x00#8, 0x00#8, 0x00#8, 0x00#8, 0xB2#8,
  0x44#8]]) := by decide +kernel

theorem test_v_mem_28 : runOn (ready [.returns 0 [0x0A#8], .returns 0 [0x05#8]]) [0x25#8, 0x04#8, 0xDE#8,
  0xAD#8, 0xBE#8, 0xEF#8] = some (.ackError, 6#8, [], [[0xA0#8, 0x04#8, 0x7B#8, 0xF7#8], [0xDE#8, 0xAD#8, 0xBE#8,
  0xEF#8, 0x00#8, 0x00#8, 0x00#8, 0x00#8, 0x00#8, 0x00#8, 0x00#8, 0x00#8, 0x00#8, 0x00#8, 0x00#8, 0x00#8, 0xB2#8,
  0x44#8]]) := by decide +kernel

theorem test_v_mem_29 : runOn (ready [.returns 0 [0x04#8, 0xA1#8, 0xB2#8, 0x9F#8, 0xC3#8, 0xD4#8, 0xE5#8,
  0xF6#8, 0x04#8, 0x48#8, 0x00#8, 0x00#8, 0x00#8, 0x00#8, 0x00#8, 0x00#8, 0x19#8, 0xB6#8]]) [0x26#8] = some (.ok,
  0#8, [0x04#8, 0xA1#8, 0xB2#8, 0xC3#8, 0xD4#8, 0xE5#8, 0xF6#8], [[0x30#8, 0x00#8, 0x02#8, 0xA8#8]]) :=
  by decide +kernel

theorem test_v_mem_30 : runOn (ready [.returns 0 [0x11#8, 0x22#8, 0x33#8, 0x44#8, 0x00#8, 0x00#8, 0x00#8,
  0x00#8, 0x00#8, 0x00#8, 0x00#8, 0x00#8, 0x00#8, 0x00#8, 0x00#8, 0x00#8, 0x91#8, 0x3E#8]]) [0x27#8] = some (.ok,
  0#8, [0x11#8, 0x22#8, 0x33#8, 0x44#8], [[0x30#8, 0x03#8, 0x99#8, 0x9A#8]]) := by decide +kernel

theorem test_v_mem_31 : runOn (ready [.returns 0 [0x0A#8]]) [0x28#8, 0x11#8, 0x22#8, 0x33#8, 0x44#8] = some
  (.ok, 0#8, [], [[0xA2#8, 0x03#8, 0x11#8, 0x22#8, 0x33#8, 0x44#8, 0x98#8, 0x53#8]]) := by decide +kernel

theorem test_v_mem_32 : runOn (ready [.returns 0 [0x00#8, 0x01#8, 0x02#8, 0x03#8, 0x04#8, 0x05#8, 0x06#8,
  0x07#8, 0x08#8, 0x09#8, 0x0A#8, 0x0B#8, 0x0C#8, 0x0D#8, 0x0E#8, 0x0F#8, 0x10#8, 0x11#8, 0x12#8, 0x13#8, 0x14#8,
  0x15#8, 0x16#8, 0x17#8, 0x18#8, 0x19#8, 0x1A#8, 0x1B#8, 0x1C#8, 0x1D#8, 0x1E#8, 0x1F#8, 0xB4#8, 0x44#8]])
  [0x29#8] = some (.ok, 0#8, [0x00#8, 0x01#8, 0x02#8, 0x03#8, 0x04#8, 0x05#8, 0x06#8, 0x07#8, 0x08#8, 0x09#8,
  0x0A#8, 0x0B#8, 0x0C#8, 0x0D#8, 0x0E#8, 0x0F#8, 0x10#8, 0x11#8, 0x12#8, 0x13#8, 0x14#8, 0x15#8, 0x16#8, 0x17#8,
  0x18#8, 0x19#8, 0x1A#8, 0x1B#8, 0x1C#8, 0x1D#8, 0x1E#8, 0x1F#8], [[0x3C#8, 0x00#8, 0xA2#8, 0x01#8]]) :=
  by decide +kernel

theorem test_v_mem_33 : runOn (ready [.returns 0 [0x00#8, 0x01#8, 0x02#8, 0x03#8, 0x04#8, 0x05#8, 0x06#8,
  0x07#8, 0x08#8, 0x09#8, 0x0A#8, 0x0B#8, 0x0C#8, 0x0D#8, 0x0E#8, 0x0F#8, 0x77#8, 0xF5#8]]) [0x29#8] = some
  (.invalidResponseLength, 4#8, [], [[0x3C#8, 0x00#8, 0xA2#8, 0x01#8]]) := by decide +kernel

theorem test_v_cnt_2 : runOn (ready [.returns 0 [0xFF#8, 0xFF#8, 0xFF#8, 0x5F#8, 0x93#8]]) [0x30#8, 0x02#8] =
  some (.ok, 0#8, [0xFF#8, 0xFF#8, 0xFF#8, 0x00#8], [[0x39#8, 0x02#8, 0x08#8, 0x5C#8]]) := by decide +kernel

theorem test_v_cnt_3 : runOn (ready []) [0x30#8, 0x03#8] = some (.invalidAddress, 6#8, [], []) :=
  by decide +kernel

theorem test_v_cnt_8 : runOn (ready [.returns 0 [0x0A#8]]) [0x31#8, 0x00#8, 0x01#8, 0x00#8, 0x00#8, 0x01#8] =
  some (.ok, 0#8, [], [[0xA5#8, 0x00#8, 0x01#8, 0x00#8, 0x00#8, 0x00#8, 0x4D#8, 0xBF#8]]) := by decide +kernel

theorem test_v_cnt_10 : runOn (ready []) [0x31#8, 0x03#8, 0x01#8, 0x00#8, 0x00#8, 0x00#8] = some
  (.invalidAddress, 7#8, [], []) := by decide +kernel

theorem test_v_cnt_12 : runOn (ready [.returns 0 [0xBD#8, 0x90#8, 0x3F#8]]) [0x32#8, 0x00#8] = some (.ok, 0#8,
  [0xBD#8], [[0x3E#8, 0x00#8, 0x12#8, 0x32#8]]) := by decide +kernel

theorem test_v_cnt_14 : runOn (ready []) [0x32#8, 0x03#8] = some (.invalidAddress, 6#8, [], []) :=
  by decide +kernel

theorem test_v_cnt_15 : runOn (ready [.returns 0 [0x80#8, 0x80#8, 0x64#8, 0x16#8]]) [0x33#8, 0xFF#8, 0xFF#8,
  0xFF#8, 0xFF#8, 0x80#8, 0x80#8] = some (.ok, 0#8, [0x80#8, 0x80#8], [[0x1B#8, 0xFF#8, 0xFF#8, 0xFF#8, 0xFF#8,
  0x63#8, 0x00#8]]) := by decide +kernel

theorem test_v_cnt_18 : runOn (ready [.returns 0 [0x80#8, 0x80#8, 0x64#8, 0x17#8]]) [0x33#8, 0xFF#8, 0xFF#8,
  0xFF#8, 0xFF#8, 0x00#8, 0x00#8] = some (.checksumError, 5#8, [], [[0x1B#8, 0xFF#8, 0xFF#8, 0xFF#8, 0xFF#8,
  0x63#8, 0x00#8]]) := by decide +kernel

theorem test_v_cnt_20 : runOn (ready [.returns 0 [0x0A#8], .returns 0 [0x0A#8]]) [0x34#8, 0x12#8, 0x34#8,
  0x56#8, 0x78#8, 0x80#8, 0x80#8] = some (.ok, 0#8, [], [[0xA2#8, 0x27#8, 0x12#8, 0x34#8, 0x56#8, 0x78#8, 0x9A#8,
  0x88#8], [0xA2#8, 0x28#8, 0x80#8, 0x80#8, 0x00#8, 0x00#8, 0x14#8, 0xA4#8]]) := by decide +kernel

theorem test_v_cnt_22 : runOn { ready [.returns 0 [0x0A#8], .returns 0 [0x0A#8]] with endPage := 0xFF#8 }
  [0x34#8, 0x12#8, 0x34#8, 0x56#8, 0x78#8, 0x80#8, 0x80#8] = some (.ok, 0#8, [], [[0xA2#8, 0xFE#8, 0x12#8, 0x34#8,
  0x56#8, 0x78#8, 0xC9#8, 0x26#8], [0xA2#8, 0xFF#8, 0x80#8, 0x80#8, 0x00#8, 0x00#8, 0xFF#8, 0x6B#8]]) :=
  by decide +kernel

theorem test_v_cfg_1 : runOn (ready [.returns 0 [0x0A#8], .returns 0 [0x0A#8]]) [0x40#8, 0x0F#8, 0x00#8, 0x01#8,
  0x00#8, 0x00#8] = some (.ok, 0#8, [], [[0xA2#8, 0x02#8, 0x00#8, 0x00#8, 0x0F#8, 0x00#8, 0x67#8, 0x2A#8],
  [0xA2#8, 0x24#8, 0x01#8, 0x00#8, 0x00#8, 0x00#8, 0x1D#8, 0xEE#8]]) := by decide +kernel

theorem test_v_cfg_3 : runOn { ready [.returns 0 [0x0A#8], .returns 0 [0x0A#8]] with endPage := 0x13#8 }
  [0x40#8, 0xFF#8, 0xFF#8, 0xFF#8, 0xFF#8, 0xFF#8] = some (.ok, 0#8, [], [[0xA2#8, 0x02#8, 0x00#8, 0x00#8, 0xFF#8,
  0xFF#8, 0x17#8, 0x59#8], [0xA2#8, 0x0F#8, 0xFF#8, 0xFF#8, 0xFF#8, 0x00#8, 0x3A#8, 0x29#8]]) := by decide +kernel

theorem test_v_cfg_4 : runOn (ready [.returns 0 [0x00#8, 0x00#8, 0x0F#8, 0x00#8, 0x00#8, 0x00#8, 0x00#8, 0x00#8,
  0x00#8, 0x00#8, 0x00#8, 0x00#8, 0x00#8, 0x00#8, 0x00#8, 0x00#8, 0xD3#8, 0xD6#8], .returns 0 [0x01#8, 0x00#8,
  0x00#8, 0xBD#8, 0x00#8, 0x00#8, 0x00#8, 0x00#8, 0x00#8, 0x00#8, 0x00#8, 0x00#8, 0x00#8, 0x00#8, 0x00#8, 0x00#8,
  0x84#8, 0xD0#8]]) [0x41#8] = some (.ok, 0#8, [0x0F#8, 0x00#8, 0x01#8, 0x00#8, 0x00#8], [[0x30#8, 0x02#8, 0x10#8,
  0x8B#8], [0x30#8, 0x24#8, 0x24#8, 0xCF#8]]) := by decide +kernel

theorem test_v_cfg_5 : runOn (ready [.returns 0 [0x00#8, 0x00#8, 0x00#8, 0x00#8, 0x00#8, 0x00#8, 0x00#8, 0x00#8,
  0x00#8, 0x00#8, 0x00#8, 0x00#8, 0x00#8, 0x00#8, 0x00#8, 0x00#8, 0x00#8, 0x00#8]]) [0x41#8] = some
  (.checksumError, 5#8, [], [[0x30#8, 0x02#8, 0x10#8, 0x8B#8]]) := by decide +kernel

theorem test_v_cfg_7 : runOn (ready [.returns 0 [0x04#8, 0x00#8, 0x00#8, 0xFF#8, 0x00#8, 0x00#8, 0x00#8, 0x00#8,
  0x00#8, 0x00#8, 0x00#8, 0x00#8, 0x00#8, 0x00#8, 0x00#8, 0x00#8, 0xFD#8, 0x1E#8], .returns 0 [0x0A#8]]) [0x42#8,
  0x01#8] = some (.ok, 0#8, [], [[0x30#8, 0x25#8, 0xAD#8, 0xDE#8], [0xA2#8, 0x25#8, 0x0C#8, 0x00#8, 0x00#8,
  0xFF#8, 0xAE#8, 0x61#8]]) := by decide +kernel

theorem test_v_cfg_9 : runOn (ready []) [0x42#8, 0x02#8] = some (.invalidParameter, 7#8, [], []) :=
  by decide +kernel

theorem test_v_cfg_12 : runOn (ready [.returns 0 [0x0C#8, 0x00#8, 0x00#8, 0xFF#8, 0x00#8, 0x00#8, 0x00#8,
  0x00#8, 0x00#8, 0x00#8, 0x00#8, 0x00#8, 0x00#8, 0x00#8, 0x00#8, 0x00#8, 0x39#8, 0x4E#8]]) [0x43#8] = some (.ok,
  0#8, [0x01#8], [[0x30#8, 0x25#8, 0xAD#8, 0xDE#8]]) := by decide +kernel

theorem test_v_cfg_13 : runOn (ready [.returns 0 [0x00#8, 0x00#8, 0x00#8, 0xFF#8, 0x00#8, 0x00#8, 0x00#8,
  0x00#8, 0x00#8, 0x00#8, 0x00#8, 0x00#8, 0x00#8, 0x00#8, 0x00#8, 0x00#8, 0x9F#8, 0x36#8], .returns 0 [0x0A#8]])
  [0x44#8, 0x10#8] = some (.ok, 0#8, [], [[0x30#8, 0x25#8, 0xAD#8, 0xDE#8], [0xA2#8, 0x25#8, 0x00#8, 0x00#8,
  0x00#8, 0x10#8, 0x63#8, 0xE9#8]]) := by decide +kernel

theorem test_v_cfg_14 : runOn (ready [.returns 0 [0x00#8, 0x00#8, 0x00#8, 0xFF#8, 0x00#8, 0x00#8, 0x00#8,
  0x00#8, 0x00#8, 0x00#8, 0x00#8, 0x00#8, 0x00#8, 0x00#8, 0x00#8, 0x00#8, 0x9F#8, 0x36#8]]) [0x45#8] = some (.ok,
  0#8, [0xFF#8], [[0x30#8, 0x25#8, 0xAD#8, 0xDE#8]]) := by decide +kernel

theorem test_v_cfg_16 : runOn (ready [.returns 0 [0x00#8, 0x05#8, 0x00#8, 0x00#8, 0x00#8, 0x00#8, 0x00#8,
  0x00#8, 0x00#8, 0x00#8, 0x00#8, 0x00#8, 0x00#8, 0x00#8, 0x00#8, 0x00#8, 0xA4#8, 0x29#8], .returns 0 [0x0A#8]])
  [0x46#8, 0x01#8, 0x01#8] = some (.ok, 0#8, [], [[0x30#8, 0x26#8, 0x36#8, 0xEC#8], [0xA2#8, 0x26#8, 0x40#8,
  0x05#8, 0x00#8, 0x00#8, 0x24#8, 0xCB#8]]) := by decide +kernel

theorem test_v_cfg_18 : runOn (ready []) [0x46#8, 0x02#8, 0x01#8] = some (.invalidParameter, 7#8, [], []) :=
  by decide +kernel

theorem test_v_cfg_21 : runOn (ready [.returns 0 [0xC7#8, 0x05#8, 0x00#8, 0x00#8, 0x00#8, 0x00#8, 0x00#8,
  0x00#8, 0x00#8, 0x00#8, 0x00#8, 0x00#8, 0x00#8, 0x00#8, 0x00#8, 0x00#8, 0xF0#8, 0x29#8]]) [0x47#8, 0x01#8] =
  some (.ok, 0#8, [0x01#8], [[0x30#8, 0x26#8, 0x36#8, 0xEC#8]]) := by decide +kernel

theorem test_v_cfg_22 : runOn (ready []) [0x47#8, 0x02#8] = some (.invalidParameter, 7#8, [], []) :=
  by decide +kernel

theorem test_v_cfg_24 : runOn (ready [.returns 0 [0x80#8, 0x05#8, 0x00#8, 0x00#8, 0x00#8, 0x00#8, 0x00#8,
  0x00#8, 0x00#8, 0x00#8, 0x00#8, 0x00#8, 0x00#8, 0x00#8, 0x00#8, 0x00#8, 0xB1#8, 0x0D#8], .returns 0 [0x0A#8]])
  [0x48#8, 0x07#8] = some (.ok, 0#8, [], [[0x30#8, 0x26#8, 0x36#8, 0xEC#8], [0xA2#8, 0x26#8, 0x87#8, 0x05#8,
  0x00#8, 0x00#8, 0xDC#8, 0xA7#8]]) := by decide +kernel

theorem test_v_cfg_25 : runOn (ready []) [0x48#8, 0x08#8] = some (.invalidParameter, 7#8, [], []) :=
  by decide +kernel

theorem test_v_cfg_26 : runOn (ready [.returns 0 [0x87#8, 0x05#8, 0x00#8, 0x00#8, 0x00#8, 0x00#8, 0x00#8,
  0x00#8, 0x00#8, 0x00#8, 0x00#8, 0x00#8, 0x00#8, 0x00#8, 0x00#8, 0x00#8, 0xF2#8, 0xBF#8]]) [0x49#8] = some (.ok,
  0#8, [0x07#8], [[0x30#8, 0x26#8, 0x36#8, 0xEC#8]]) := by decide +kernel

theorem test_v_cfg_27 : runOn (ready [.returns 0 [0x00#8, 0x00#8, 0x00#8, 0x00#8, 0x00#8, 0x00#8, 0x00#8,
  0x00#8, 0x00#8, 0x00#8, 0x00#8, 0x00#8, 0x00#8, 0x00#8, 0x00#8, 0x00#8, 0x37#8, 0x49#8], .returns 0 [0x0A#8]])
  [0x4A#8, 0x05#8] = some (.ok, 0#8, [], [[0x30#8, 0x26#8, 0x36#8, 0xEC#8], [0xA2#8, 0x26#8, 0x00#8, 0x05#8,
  0x00#8, 0x00#8, 0x93#8, 0xDD#8]]) := by decide +kernel

theorem test_v_cfg_28 : runOn (ready [.returns 0 [0x87#8, 0x05#8, 0x00#8, 0x00#8, 0x00#8, 0x00#8, 0x00#8,
  0x00#8, 0x00#8, 0x00#8, 0x00#8, 0x00#8, 0x00#8, 0x00#8, 0x00#8, 0x00#8, 0xF2#8, 0xBF#8]]) [0x4B#8] = some (.ok,
  0#8, [0x05#8], [[0x30#8, 0x26#8, 0x36#8, 0xEC#8]]) := by decide +kernel

/-! ### Session registers after a command -/

/-- The session registers a step leaves: INIT_FLAG, DTYPE, END_PAGE, SEL_STATE. -/
def sessionAfter (s : State) (c : List Byte) : Option (Bool × TagType × Byte × SelState) :=
  match step { s with commands := [c] } with
  | .next t => some (t.initFlag, t.dtype, t.endPage, t.selState)
  | .fault _ => none
  | .refused _ => none

/-- V-SES-9. -/
theorem test_session_init :
    sessionAfter { ready [] with selState := .cl2Done } [0x00#8] = some (true, .invalid, 0xFF#8, .notSelected) := by
  decide +kernel

/-- V-SES-8. -/
theorem test_session_init_fails :
    sessionAfter { ready [] with rfAnswers := [1] } [0x00#8] = some (false, .invalid, 0x28#8, .notSelected) := by
  decide +kernel

/-- V-SEL-6. -/
theorem test_session_request_fails :
    sessionAfter { ready [.returns 1 []] with selState := .cl2Done, dtype := .ultralight } [0x10#8] =
      some (true, .invalid, 0x28#8, .notSelected) := by decide +kernel

/-- V-SEL-12. -/
theorem test_session_halt_fails :
    sessionAfter { ready [.returns 1 []] with selState := .cl2Done } [0x12#8] =
      some (true, .invalid, 0x28#8, .notSelected) := by decide +kernel

/-- V-SEL-24 and V-SEL-25. -/
theorem test_session_select_cl2 :
    sessionAfter { ready [.returns 0 [0x00#8]] with selState := .cl1Done } [0x16#8, 0xC3#8, 0xD4#8, 0xE5#8, 0xF6#8] =
      some (true, .invalid, 0x28#8, .cl2Done) ∧
    sessionAfter { ready [.returns 0 [0x04#8]] with selState := .cl1Done } [0x16#8, 0xC3#8, 0xD4#8, 0xE5#8, 0xF6#8] =
      some (true, .invalid, 0x28#8, .notSelected) := by decide +kernel

/-- V-MEM-1 and V-MEM-3. -/
theorem test_session_get_version :
    sessionAfter (ready [.returns 0 [0x00#8, 0x04#8, 0x03#8, 0x01#8, 0x01#8, 0x00#8, 0x0B#8, 0x03#8, 0xFD#8, 0xF7#8]])
      [0x20#8] = some (true, .invalid, 0x13#8, .notSelected) ∧
    sessionAfter (ready [.returns 0 [0x00#8, 0x04#8, 0x03#8, 0x01#8, 0x01#8, 0x00#8, 0x0F#8, 0x03#8, 0x9D#8, 0x90#8]])
      [0x20#8] = some (true, .invalid, 0x28#8, .notSelected) := by decide +kernel

/-- 60_exceptions.md R352: an exchange that never returns leaves the command unfinished. -/
theorem test_never_returns :
    exec (.readPage 0x04#8) (ready [.neverReturns]) = .fault .exchangeNeverReturns := rfl

/-! ### Witnesses: states and operands that meet the hypotheses of each statement, at the boundary of each clause -/

theorem witness_EncodeThenDecodeIsIdentity :
    (Instr.crc16 (List.replicate 255 0x00#8)).wf = true ∧ (Instr.crcCheck []).wf = true ∧
    (Instr.fastRead 0x00#8 0xFF#8 0xFFFF#16).wf = true := by decide +kernel

theorem witness_DecodeThenEncodeIsIdentity :
    decode [0x31#8, 0x02#8, 0xFF#8, 0x00#8, 0x00#8, 0x80#8] = .ok (.incrementCounter 0x02#8 0x800000FF#32) := by decide

theorem witness_IllegalDescriptorEndsIllegalCommand :
    (∀ b ∈ [0x05#8, 0x07#8, 0x0A#8, 0x0F#8, 0x17#8, 0x1F#8, 0x2A#8, 0x2F#8, 0x35#8, 0x3F#8, 0x4C#8, 0xFF#8],
      reservedOpselValue b ∧ ((powerOn []).issue (b :: [])).commands = (b :: []) :: []) ∧
    (([] : List Byte).length + 1 ≠ formatLength (([] : List Byte).headD 0x00#8) (formatOf .setStorage) ∧
      ((powerOn []).issue [0x03#8]).commands = [opselCode .setStorage] :: []) ∧
    (([0x02#8, 0x12#8] : List Byte).length + 1 ≠ formatLength 0x02#8 (formatOf .crc16) ∧
      ((powerOn []).issue [0x08#8, 0x02#8, 0x12#8]).commands = (opselCode .crc16 :: [0x02#8, 0x12#8]) :: []) ∧
    (powerOn []).params.statusOverrides = [] := by
  refine ⟨?_, ⟨by decide, rfl⟩, ⟨by decide, rfl⟩, rfl⟩
  unfold reservedOpselValue
  intro b hb
  exact ⟨by revert b; decide, rfl⟩

theorem witness_StepRunsTheDecodedCommand :
    (((ready []).issue [0x04#8]).commands = [0x04#8] :: [] ∧ decode [0x04#8] = .ok .getStorage ∧
      Instr.getStorage.wf = true) ∧ (ready []).commands = [] := ⟨⟨rfl, by decide, rfl⟩, rfl⟩

theorem witness_CrcCornerCases : (0x00#8 : Byte) ≠ 0x80#8 := by decide

theorem witness_FramesWithCrcPassCheckCrc :
    [0x00#8, 0x00#8] ≠ le16 (crc16 []) ∧ [0x32#8, 0xF8#8] ≠ le16 (crc16 [0x60#8]) := by decide

/-- The last clause at a descriptor that holds its n bytes, and at one that holds fewer. -/
theorem witness_Crc16Meaning :
    (powerOn []).initFlag = false ∧ (ready []).initFlag = true ∧
    ((ready []).issue [0x08#8, 0x01#8, 0x12#8]).commands = (0x08#8 :: 0x01#8 :: [0x12#8]) :: [] ∧
    ((ready []).issue [0x08#8, 0x03#8, 0x12#8]).commands = (0x08#8 :: 0x03#8 :: [0x12#8]) :: [] := ⟨rfl, rfl, rfl, rfl⟩

/-- The last clause at a descriptor that holds its n bytes, and at ones that hold fewer and more: those end IllegalCommand. -/
theorem witness_CrcCheckMeaning :
    (powerOn []).initFlag = false ∧ (ready []).initFlag = true ∧ ([0x63#8] : List Byte).length < 2 ∧
    ([0x63#8, 0x63#8] : List Byte) = [] ++ [0x63#8, 0x63#8] ∧
    ((ready []).issue [0x09#8, 0x00#8]).commands = (0x09#8 :: 0x00#8 :: []) :: [] ∧
    (((ready []).issue [0x09#8, 0x03#8, 0x63#8, 0x63#8]).commands = (0x09#8 :: 0x03#8 :: [0x63#8, 0x63#8]) :: [] ∧
      ∃ t, step ((ready []).issue [0x09#8, 0x03#8, 0x63#8, 0x63#8]) = .next t ∧ t.outcome = some .illegalCommand) ∧
    (((ready []).issue [0x09#8, 0x01#8, 0x63#8, 0x63#8]).commands = (0x09#8 :: 0x01#8 :: [0x63#8, 0x63#8]) :: [] ∧
      ∃ t, step ((ready []).issue [0x09#8, 0x01#8, 0x63#8, 0x63#8]) = .next t ∧ t.outcome = some .illegalCommand) :=
  ⟨rfl, rfl, by decide, rfl, rfl, ⟨rfl, _, rfl, rfl⟩, rfl, _, rfl, rfl⟩

theorem witness_InitMeaning :
    (∀ present ∈ [0b11110#5, 0b00000#5], ({ powerOn [] with collabPresent := present } : State).collabPresent.getLsbD 0 = false) ∧
    ((0b11101#5).getLsbD 0 = true ∧ (0b11101#5).getLsbD 1 = false) ∧
    ((0b11011#5).getLsbD 0 = true ∧ (0b11011#5).getLsbD 1 = true ∧ (0b11011#5).getLsbD 2 = false) ∧
    ((0b10111#5).getLsbD 0 = true ∧ (0b10111#5).getLsbD 1 = true ∧ (0b10111#5).getLsbD 2 = true ∧
      (0b10111#5).getLsbD 3 = false) ∧
    ((0b01111#5).getLsbD 0 = true ∧ (0b01111#5).getLsbD 1 = true ∧ (0b01111#5).getLsbD 2 = true ∧
      (0b01111#5).getLsbD 3 = true ∧ (0b01111#5).getLsbD 4 = false) ∧
    (powerOn []).collabPresent = 0b11111#5 := by
  refine ⟨?_, by decide, by decide, by decide, by decide, rfl⟩
  intro present h
  show present.getLsbD 0 = false
  revert present; decide

theorem witness_StateAfterSuccessfulInit :
    ∃ t, exec .init (powerOn []) = .next t ∧ t.outcome = some .ok ∧ (powerOn []).params.statusOverrides = [] :=
  ⟨_, rfl, rfl, rfl⟩

theorem witness_DeinitMeaning : (powerOn []).initFlag = false ∧ (ready []).initFlag = true := ⟨rfl, rfl⟩

theorem witness_InfoMeaning :
    (powerOn []).params.infoRecord.length ≤ 60 ∧
    ({ testParams with infoRecord := List.replicate 60 0x4D#8 } : Params).infoRecord.length ≤ 60 := by
  decide +kernel

theorem witness_StorageMeaning : (powerOn []).initFlag = false ∧ (ready []).initFlag = true := ⟨rfl, rfl⟩

theorem witness_GateRefusesWhenNotInitialized :
    Instr.halt ≠ .init ∧ Instr.halt ≠ .info ∧ (powerOn []).initFlag = false := by decide +kernel

/-- Both sides of every bound of the operand checks. -/
theorem witness_OperandErrorsEndBeforeAnyExchange :
    (ready []).initFlag = true ∧
    operandError (ready []) (.fastRead 0x05#8 0x04#8 0xFFFF#16) = some .invalidRange ∧
    operandError (ready []) (.fastRead 0x00#8 0x0F#8 0xFFFF#16) = some .rangeTooLarge ∧
    operandError (ready []) (.fastRead 0x00#8 0x0E#8 0x003B#16) = some .bufferTooSmall ∧
    operandError (ready []) (.fastRead 0x00#8 0x0E#8 0x003C#16) = none ∧
    operandError (ready []) (.readCounter 0x03#8) = some .invalidAddress ∧
    operandError (ready []) (.incrementCounter 0x02#8 0#32) = none ∧
    operandError (ready []) (.setModulation 0x02#8) = some .invalidParameter ∧
    operandError (ready []) (.setAccess 0x02#8 0x00#8) = some .invalidParameter ∧
    operandError (ready []) (.setAccess 0x01#8 0x02#8) = some .invalidParameter ∧
    operandError (ready []) (.setAuthLimit 0x08#8) = some .invalidParameter ∧
    operandError (ready []) (.getAccess 0x02#8) = some .invalidParameter ∧
    operandError (ready []) (.crcCheck [0x63#8]) = some .invalidResponseLength ∧
    operandError { ready [] with params := { testParams with enforceCascadeOrder := true } } .anticollCl2 =
      some .sequenceError := by decide +kernel

theorem witness_TransportFailureEndsTheCommand :
    (ready [.returns 1 []]).initFlag = true ∧ operandError (ready [.returns 1 []]) .wakeUp = none ∧
    firstExchange (ready [.returns 1 []]) .wakeUp = some ([0x52#8], 2) ∧
    (ready [.returns 1 []]).exchangeAnswers = .returns 1 [] :: [] ∧ (1 : Nat) ≠ 0 ∧
    ([] : List Byte).length ≤ (ready [.returns 1 []]).params.rxLenMax.toNat := by decide +kernel

/-- One response for each check: too short, too long, a wrong CRC, a wrong content. -/
theorem witness_FirstResponseChecksInOrder :
    (ready []).initFlag = true ∧ operandError (ready []) (.readCounter 0x02#8) = none ∧
    firstExchange (ready []) (.readCounter 0x02#8) = some ([0x39#8, 0x02#8, 0x08#8, 0x5C#8], 5) ∧
    (ready [.returns 0 [0x01#8]]).replies [0x01#8] [] ∧
    responseError 5 [0x01#8, 0x00#8, 0x00#8, 0xC8#8] (.readCounter 0x02#8) = some .invalidResponseLength ∧
    responseError 5 [0x01#8, 0x00#8, 0x00#8, 0x00#8, 0xC8#8, 0xFF#8] (.readCounter 0x02#8) =
      some .invalidResponseLength ∧
    responseError 5 [0x01#8, 0x00#8, 0x00#8, 0xC8#8, 0xFE#8] (.readCounter 0x02#8) = some .checksumError ∧
    responseError 5 [0x01#8, 0x00#8, 0x00#8, 0xC8#8, 0xFF#8] (.readCounter 0x02#8) = none ∧
    responseError 2 [0x00#8, 0x44#8] .request = some .typeInvalid ∧
    responseError 1 [0x05#8] (.otpWrite ⟨0#8, 0#8, 0#8, 0#8⟩) = some .ackError ∧
    responseError 1 [0x00#8] (.selectCl1 ⟨0#8, 0#8, 0#8, 0#8⟩) = some .sakError ∧
    responseError 4 [0x80#8, 0x80#8, 0x64#8, 0x16#8] (.authenticate ⟨0#8, 0#8, 0#8, 0#8⟩ 0x00#8 0x00#8) =
      some .packMismatch := by
  refine ⟨rfl, ?_, ?_, ⟨rfl, ?_⟩, ?_, ?_, ?_, ?_, ?_, ?_, ?_, ?_⟩ <;> decide +kernel

theorem witness_SecondWriteFailureIsReported :
    (∀ a ∈ [Answer.returns 1 [], .returns 0 [0x05#8], .returns 0 [0x0A#8, 0x0A#8]],
      (ready [.returns 0 [0x0A#8], a]).initFlag = true ∧
      twoWrites (ready [.returns 0 [0x0A#8], a]) (.compWrite 0x04#8 ⟨0#8, 0#8, 0#8, 0#8⟩) =
        some ([0xA0#8, 0x04#8], List.replicate 16 0x00#8)) ∧
    (ready [.returns 0 [0x0A#8], .returns 0 [0x05#8]]).exchangeAnswers =
      .returns 0 [0x0A#8] :: .returns 0 [0x05#8] :: [] ∧
    1 ≤ (ready []).params.rxLenMax.toNat ∧ ([0x05#8] : List Byte) ≠ [0x0A#8] := by decide +kernel

/-- Data of n zero bytes and their CRC, as an answer. -/
def zeroData (n : Nat) : Answer := .returns 0 (frameWithCrc (List.replicate n 0x00#8))

theorem witness_ExchangeThatNeverReturnsStops :
    (ready [.neverReturns]).initFlag = true ∧ operandError (ready [.neverReturns]) .getLock = none ∧
    firstExchange (ready [.neverReturns]) .getLock = some ([0x30#8, 0x02#8, 0x10#8, 0x8B#8], 18) ∧
    (ready [.neverReturns]).exchangeAnswers = .neverReturns :: [] ∧
    (twoWrites (ready []) (.compWrite 0x04#8 ⟨0#8, 0#8, 0#8, 0#8⟩)).isSome = true ∧
    (configWrite (.setVctid 0x00#8)).isSome = true ∧ 18 ≤ (ready []).params.rxLenMax.toNat := by decide +kernel

/-- Every kind of failure of the write, and the widest legal operands. -/
theorem witness_ConfigWriteFailureIsReported :
    (∀ a ∈ [Answer.returns 1 [], .returns 0 [], .returns 0 [0x05#8]],
      (ready [zeroData 16, a]).initFlag = true ∧ (ready [zeroData 16, a]).exchangeAnswers = zeroData 16 :: a :: []) ∧
    (∀ i ∈ [Instr.setModulation 0x01#8, .setProtectStart 0xFF#8, .setAccess 0x00#8 0x01#8, .setAccess 0x01#8 0x01#8,
      .setAuthLimit 0x07#8, .setVctid 0xFF#8], operandError (ready []) i = none ∧ (configWrite i).isSome = true) ∧
    18 ≤ (ready []).params.rxLenMax.toNat ∧ ([0x05#8] : List Byte) ≠ [0x0A#8] := by decide +kernel

/-- A failure of each of the three kinds. -/
theorem witness_GetLockSecondReadFailureIsReported :
    (∀ a ∈ [Answer.returns 1 [], .returns 0 (List.replicate 17 0x00#8), .returns 0 (List.replicate 18 0x00#8)],
      (ready [zeroData 16, a]).initFlag = true ∧ (ready [zeroData 16, a]).exchangeAnswers = zeroData 16 :: a :: []) ∧
    (List.replicate 18 (0x00#8 : Byte)).drop 16 ≠ le16 (crc16 ((List.replicate 18 (0x00#8 : Byte)).take 16)) ∧
    18 ≤ (ready []).params.rxLenMax.toNat := by decide +kernel

theorem witness_RequestAndWakeUpComplete :
    (ready [.returns 0 [0x44#8, 0x00#8]]).initFlag = true ∧
    (ready [.returns 0 [0x44#8, 0x00#8]]).replies [0x44#8, 0x00#8] [] := ⟨rfl, rfl, by decide⟩

/-- Any response length: none, and the longest the interface delivers. -/
theorem witness_HaltCompletes :
    (ready [.returns 0 []]).initFlag = true ∧ (ready [.returns 0 []]).replies [] [] ∧
    (ready [.returns 0 (List.replicate 255 0x00#8)]).replies (List.replicate 255 0x00#8) [] ∧
    (ready []).params.haltAppendCrc = false ∧ ({ testParams with haltAppendCrc := true } : Params).haltAppendCrc = true :=
  ⟨rfl, ⟨rfl, by decide⟩, ⟨rfl, by decide +kernel⟩, rfl, rfl⟩

theorem witness_AnticollisionCompletes :
    (ready [.returns 0 [0x88#8, 0x04#8, 0xA1#8, 0xB2#8, 0x9F#8]]).initFlag = true ∧
    (ready [.returns 0 [0x88#8, 0x04#8, 0xA1#8, 0xB2#8, 0x9F#8]]).replies
      (quadBytes ⟨0x88#8, 0x04#8, 0xA1#8, 0xB2#8⟩ ++ [0x88#8 ^^^ 0x04#8 ^^^ 0xA1#8 ^^^ 0xB2#8]) [] ∧
    (ready []).params.enforceCascadeOrder = false ∧ ({ ready [] with selState := .cl1Done } : State).selState = .cl1Done :=
  ⟨rfl, ⟨by decide +kernel, by decide⟩, rfl, rfl⟩

theorem witness_SelectCompletes :
    (ready [.returns 0 [0x04#8]]).initFlag = true ∧ (ready [.returns 0 [0x04#8]]).replies [0x04#8] [] ∧
    (ready [.returns 0 [0x00#8]]).replies [0x00#8] [] ∧ (ready [.returns 0 [0x00#8]]).params.enforceCascadeOrder = false :=
  ⟨rfl, ⟨rfl, by decide⟩, ⟨rfl, by decide⟩, rfl⟩

theorem zeroData_replies (n : Nat) (rest : List Answer) (h : n ≤ 253) :
    (ready (zeroData n :: rest)).replies (frameWithCrc (List.replicate n 0x00#8)) rest :=
  ⟨rfl, by rw [length_frameWithCrc, List.length_replicate]; show n + 2 ≤ 255; omega⟩

theorem witness_GetVersionCompletes :
    (ready [zeroData 8]).initFlag = true ∧ (List.replicate 8 0x00#8).length = 8 ∧
    (ready [zeroData 8]).replies (frameWithCrc (List.replicate 8 0x00#8)) [] :=
  ⟨rfl, rfl, zeroData_replies 8 [] (by decide)⟩

theorem witness_ReadsComplete :
    (ready [zeroData 16]).initFlag = true ∧ (List.replicate 16 0x00#8).length = 16 ∧
    (ready [zeroData 16]).replies (frameWithCrc (List.replicate 16 0x00#8)) [] :=
  ⟨rfl, rfl, zeroData_replies 16 [] (by decide)⟩

/-- One page at the top of the page space, and fifteen pages with a buffer that just holds them. -/
theorem witness_FastReadCompletes :
    ((ready [zeroData 4]).initFlag = true ∧ (0xFF#8).toNat ≤ (0xFF#8).toNat ∧ (0xFF#8).toNat - (0xFF#8).toNat + 1 ≤ 15 ∧
      (List.replicate 4 0x00#8).length = 4 * ((0xFF#8).toNat - (0xFF#8).toNat + 1) ∧
      (List.replicate 4 0x00#8).length ≤ (0x0004#16).toNat ∧
      (ready [zeroData 4]).replies (frameWithCrc (List.replicate 4 0x00#8)) []) ∧
    ((0x00#8).toNat ≤ (0x0E#8).toNat ∧ (0x0E#8).toNat - (0x00#8).toNat + 1 ≤ 15 ∧
      (List.replicate 60 0x00#8).length = 4 * ((0x0E#8).toNat - (0x00#8).toNat + 1) ∧
      (List.replicate 60 0x00#8).length ≤ (0x003C#16).toNat ∧
      (ready [zeroData 60]).replies (frameWithCrc (List.replicate 60 0x00#8)) []) :=
  ⟨⟨rfl, by decide, by decide, by decide, by decide, zeroData_replies 4 [] (by decide)⟩,
    by decide, by decide, by decide, by decide, zeroData_replies 60 [] (by decide)⟩

theorem witness_WritesComplete :
    (ready [.returns 0 [0x0A#8]]).initFlag = true ∧ (ready [.returns 0 [0x0A#8]]).replies [0x0A#8] [] :=
  ⟨rfl, rfl, by decide⟩

/-- Two acknowledgements, for the commands with two writes. -/
theorem twoAcks : (ready [.returns 0 [0x0A#8], .returns 0 [0x0A#8]]).initFlag = true ∧
    (ready [.returns 0 [0x0A#8], .returns 0 [0x0A#8]]).repliesTwice [0x0A#8] [0x0A#8] [] :=
  ⟨rfl, rfl, by decide, by decide⟩

theorem witness_CompWriteCompletes : ∃ s : State, s.initFlag = true ∧ s.repliesTwice [0x0A#8] [0x0A#8] [] := ⟨_, twoAcks⟩

theorem witness_ReadSignatureCompletes :
    (ready [zeroData 32]).initFlag = true ∧ (List.replicate 32 0x00#8).length = 32 ∧
    (ready [zeroData 32]).replies (frameWithCrc (List.replicate 32 0x00#8)) [] :=
  ⟨rfl, rfl, zeroData_replies 32 [] (by decide)⟩

theorem witness_CounterReadsComplete :
    (ready []).initFlag = true ∧ (0x00#8).toNat ≤ 2 ∧ (0x02#8).toNat ≤ 2 ∧
    (ready [zeroData 3]).replies (frameWithCrc [0x00#8, 0x00#8, 0x00#8]) [] ∧
    (ready [zeroData 1]).replies (frameWithCrc [0x00#8]) [] :=
  ⟨rfl, by decide, by decide, zeroData_replies 3 [] (by decide), zeroData_replies 1 [] (by decide)⟩

theorem witness_IncrementCounterCompletes :
    (ready [.returns 0 [0x0A#8]]).initFlag = true ∧ (0x02#8).toNat ≤ 2 ∧
    (ready [.returns 0 [0x0A#8]]).replies [0x0A#8] [] := ⟨rfl, by decide, rfl, by decide⟩

theorem witness_AuthenticateComparesThePack :
    (ready [zeroData 2]).initFlag = true ∧ (ready [zeroData 2]).replies (frameWithCrc [0x00#8, 0x00#8]) [] ∧
    ((0x00#8 : Byte) = 0x00#8 ∧ (0x00#8 : Byte) = 0x00#8) ∧ ((0x00#8 : Byte) ≠ 0x80#8 ∨ (0x00#8 : Byte) ≠ 0x00#8) :=
  ⟨rfl, zeroData_replies 2 [] (by decide), ⟨rfl, rfl⟩, .inl (by decide)⟩

theorem witness_SetPasswordPackCompletes :
    ∃ s : State, s.initFlag = true ∧ s.repliesTwice [0x0A#8] [0x0A#8] [] := ⟨_, twoAcks⟩

theorem witness_SetLockCompletes :
    ∃ s : State, s.initFlag = true ∧ s.repliesTwice [0x0A#8] [0x0A#8] [] := ⟨_, twoAcks⟩

theorem witness_GetLockCompletes :
    (ready [zeroData 16, zeroData 16]).initFlag = true ∧ (List.replicate 16 0x00#8).length = 16 ∧
    (ready [zeroData 16, zeroData 16]).repliesTwice (frameWithCrc (List.replicate 16 0x00#8))
      (frameWithCrc (List.replicate 16 0x00#8)) [] := ⟨rfl, rfl, rfl, by decide +kernel, by decide +kernel⟩

theorem witness_ConfigSetsComplete :
    (ready [zeroData 16, .returns 0 [0x0A#8]]).initFlag = true ∧ (List.replicate 16 0x00#8).length = 16 ∧
    (ready [zeroData 16, .returns 0 [0x0A#8]]).repliesTwice (frameWithCrc (List.replicate 16 0x00#8)) [0x0A#8] [] ∧
    (0x01#8).toNat ≤ 1 ∧ (0x07#8).toNat ≤ 7 :=
  ⟨rfl, rfl, ⟨rfl, by decide +kernel, by decide⟩, by decide, by decide⟩

theorem witness_ConfigGetsComplete :
    (ready [zeroData 16]).initFlag = true ∧ (List.replicate 16 0x00#8).length = 16 ∧
    (ready [zeroData 16]).replies (frameWithCrc (List.replicate 16 0x00#8)) [] :=
  ⟨rfl, rfl, zeroData_replies 16 [] (by decide)⟩

/-- The narrowest field at the top bit, and the widest. -/
theorem witness_FieldWritesAreIsolated :
    (defaultCfgFields.prot.lo + defaultCfgFields.prot.width ≤ 8 ∧ (0x01#8).toNat < 2 ^ defaultCfgFields.prot.width) ∧
    (defaultCfgFields.auth0.lo + defaultCfgFields.auth0.width ≤ 8 ∧ (0xFF#8).toNat < 2 ^ defaultCfgFields.auth0.width) ∧
    (List.replicate 4 0x00#8).length = 4 := by decide

/-- A block that enforces the cascade order, not yet selected. -/
def enforcing : State := { ready [] with params := { testParams with enforceCascadeOrder := true } }

theorem witness_CascadeCheckMeaning :
    (enforcing.initFlag = true ∧ enforcing.params.enforceCascadeOrder = true ∧ enforcing.selState ≠ .cl1Done) ∧
    ∃ t, exec .anticollCl2 enforcing = .next t ∧ t.outcome = some .sequenceError := ⟨by decide +kernel, _, rfl, rfl⟩

theorem witness_EveryCommandEndsInOneOutcome :
    ((ready []).issue [0xFF#8]).commands ≠ [] ∧
    (ready [.returns 0 [], .returns 1 []]).exchangeAnswers = .returns 0 [] :: .returns 1 [] :: [] := by
  refine ⟨?_, rfl⟩
  show [0xFF#8] :: _ ≠ []
  simp

theorem witness_SessionRegisterWriters :
    (∃ t, exec .init (powerOn []) = .next t ∧ t.outcome = some .ok) ∧
    (∃ t, exec .init { powerOn [] with collabPresent := 0b11110#5 } = .next t ∧ t.outcome ≠ some .ok) ∧
    (∃ t, exec .halt (powerOn []) = .next t) ∧ (∃ t, exec (.setStorage 0x28#8) (ready []) = .next t) ∧
    (∃ t, exec (.selectCl2 ⟨0#8, 0#8, 0#8, 0#8⟩) enforcing = .next t ∧ t.outcome = some .sequenceError) :=
  ⟨⟨_, rfl, rfl⟩, ⟨_, rfl, by decide⟩, ⟨_, rfl⟩, ⟨_, rfl⟩, ⟨_, rfl, rfl⟩⟩

theorem witness_ResultKeptUnlessOk :
    (∃ t, exec .deinit (powerOn []) = .next t ∧ t.outcome ≠ some .ok) ∧
    ∃ t, step ((powerOn []).issue [0xFF#8]) = .next t ∧ t.outcome ≠ some .ok :=
  ⟨⟨_, rfl, by decide⟩, _, rfl, by decide⟩

theorem witness_StatusCodeTable : defaultParams.statusOverrides = [] := rfl

theorem witness_StatusTellsTheOutcome :
    ∃ t t', (powerOn []).params.statusOverrides = [] ∧ (ready []).params.statusOverrides = [] ∧
      exec .deinit (powerOn []) = .next t ∧ exec .deinit (powerOn []) = .next t' ∧ t.status = t'.status ∧
      (Instr.deinit ≠ .init ∨ t.status ≠ 3#8) := ⟨_, _, rfl, rfl, rfl, rfl, rfl, .inl (by decide)⟩

theorem witness_NullHandleIsNeverRaised :
    defaultParams.statusOverrides = [] ∧
    (∃ t, step ((powerOn []).issue [0x02#8]) = .next t ∧ ((powerOn []).issue [0x02#8]).outcome ≠ some .nullHandle) ∧
    ∃ t, exec .info (powerOn []) = .next t := ⟨rfl, ⟨_, rfl, by decide +kernel⟩, _, rfl⟩

theorem witness_ConfigurationIsFixed : ∃ t, step ((ready []).issue [0x03#8, 0x13#8]) = .next t := ⟨_, rfl⟩

theorem witness_OnlyKnownFramesAreSent :
    (∃ t, exec .init (powerOn []) = .next t) ∧ (∃ t, exec .deinit (ready []) = .next t) ∧
    ∃ t, exec .wakeUp (ready [.returns 1 []]) = .next t := ⟨⟨_, rfl⟩, ⟨_, rfl⟩, _, rfl⟩

theorem witness_StepKeepsTheInvariant :
    (powerOn []).Inv ∧ ((powerOn []).issue [0x00#8]).Inv ∧ ∃ t, step ((powerOn []).issue [0x00#8]) = .next t := by
  have h : ∀ c, ({ powerOn [] with commands := c } : State).Inv := fun c =>
    ⟨by show (0x00#8).toNat ≤ 18; decide, by show (0x00#8).toNat ≤ _; simp, by show (0x00#8).toNat ≤ 60; decide,
      by show (none : Option CmdOutcome) ≠ _; decide, fun _ => by show (0x00#8 = 0x00#8 ↔ (none : Option CmdOutcome) = none ∨ _); simp,
      fun _ => ⟨rfl, rfl, rfl, rfl, rfl, rfl, rfl⟩⟩
  exact ⟨h _, h _, _, rfl⟩

theorem witness_StepKeepsTheTraceToKnownFrames :
    State.reset.tracesKnownFrames ∧ step State.reset = .next State.reset := ⟨(fun _ _ h => nomatch h), rfl⟩

/-- The first n answers of a tag that is selected, then the answer a. -/
def answersThen (n : Nat) (a : Answer) : State :=
  ready (([.returns 0 [0x44#8, 0x00#8], .returns 0 [0x88#8, 0x04#8, 0xA1#8, 0xB2#8, 0x9F#8], .returns 0 [0x04#8],
    .returns 0 [0xC3#8, 0xD4#8, 0xE5#8, 0xF6#8, 0x04#8], .returns 0 [0x00#8]] : List Answer).take n ++ [a])

/-- The first n answers of a tag that is selected, then one that fails. -/
abbrev failsAfter (n : Nat) : State := answersThen n (.returns 1 [])

/-- The first n answers of a tag that is selected, then the one that never comes. -/
abbrev hangsAfter (n : Nat) : State := answersThen n .neverReturns

/-- Each command of a sequence is the first to fail somewhere, and none fails with all five answers. -/
theorem witness_HostSequencesStopAtTheFirstFailure : ∀ first ∈ ([.request, .wakeUp] : List Instr),
    (∃ t, endsNotOk first (failsAfter 0) t) ∧
    (∃ s1, endsOk first (failsAfter 1) s1 ∧ ∃ t, endsNotOk .anticollCl1 s1 t) ∧
    (∃ s1, endsOk first (failsAfter 2) s1 ∧ ∃ s2, endsOk .anticollCl1 s1 s2 ∧
      ∃ t, endsNotOk (.selectCl1 (resultQuad s2)) s2 t) ∧
    (∃ s1, endsOk first (failsAfter 3) s1 ∧ ∃ s2, endsOk .anticollCl1 s1 s2 ∧
      ∃ s3, endsOk (.selectCl1 (resultQuad s2)) s2 s3 ∧ ∃ t, endsNotOk .anticollCl2 s3 t) ∧
    (∃ s1, endsOk first (failsAfter 4) s1 ∧ ∃ s2, endsOk .anticollCl1 s1 s2 ∧
      ∃ s3, endsOk (.selectCl1 (resultQuad s2)) s2 s3 ∧ ∃ s4, endsOk .anticollCl2 s3 s4 ∧
      ∃ t, endsNotOk (.selectCl2 (resultQuad s4)) s4 t) := by
  simp only [List.forall_mem_cons, List.not_mem_nil, false_implies, implies_true, and_true]
  have no {i : Instr} {s t : State} (h : exec i s = .next t) (ho : t.outcome ≠ some .ok) : endsNotOk i s t := ⟨h, ho⟩
  have ok {i : Instr} {s t : State} (h : exec i s = .next t) (ho : t.outcome = some .ok) : endsOk i s t := ⟨h, ho⟩
  constructor
  all_goals
    exact ⟨⟨_, no rfl (by decide)⟩, ⟨_, ok rfl rfl, _, no rfl (by decide)⟩,
      ⟨_, ok rfl rfl, _, ok rfl rfl, _, no rfl (by decide)⟩,
      ⟨_, ok rfl rfl, _, ok rfl rfl, _, ok rfl rfl, _, no rfl (by decide)⟩,
      ⟨_, ok rfl rfl, _, ok rfl rfl, _, ok rfl rfl, _, ok rfl rfl, _, no rfl (by decide)⟩⟩

/-- Each command of a sequence is the one that stops somewhere. -/
theorem witness_HostSequencesStopWithTheirCommand : ∀ first ∈ ([.request, .wakeUp] : List Instr),
    (∃ f, exec first (hangsAfter 0) = .fault f) ∧
    (∃ s1, endsOk first (hangsAfter 1) s1 ∧ ∃ f, exec .anticollCl1 s1 = .fault f) ∧
    (∃ s1, endsOk first (hangsAfter 2) s1 ∧ ∃ s2, endsOk .anticollCl1 s1 s2 ∧
      ∃ f, exec (.selectCl1 (resultQuad s2)) s2 = .fault f) ∧
    (∃ s1, endsOk first (hangsAfter 3) s1 ∧ ∃ s2, endsOk .anticollCl1 s1 s2 ∧
      ∃ s3, endsOk (.selectCl1 (resultQuad s2)) s2 s3 ∧ ∃ f, exec .anticollCl2 s3 = .fault f) ∧
    (∃ s1, endsOk first (hangsAfter 4) s1 ∧ ∃ s2, endsOk .anticollCl1 s1 s2 ∧
      ∃ s3, endsOk (.selectCl1 (resultQuad s2)) s2 s3 ∧ ∃ s4, endsOk .anticollCl2 s3 s4 ∧
      ∃ f, exec (.selectCl2 (resultQuad s4)) s4 = .fault f) := by
  simp only [List.forall_mem_cons, List.not_mem_nil, false_implies, implies_true, and_true]
  have ok {i : Instr} {s t : State} (h : exec i s = .next t) (ho : t.outcome = some .ok) : endsOk i s t := ⟨h, ho⟩
  constructor
  all_goals
    exact ⟨⟨_, rfl⟩, ⟨_, ok rfl rfl, _, rfl⟩, ⟨_, ok rfl rfl, _, ok rfl rfl, _, rfl⟩,
      ⟨_, ok rfl rfl, _, ok rfl rfl, _, ok rfl rfl, _, rfl⟩,
      ⟨_, ok rfl rfl, _, ok rfl rfl, _, ok rfl rfl, _, ok rfl rfl, _, rfl⟩⟩

theorem witness_SelectCardGathersTheIdentifier :
    (ready [.returns 0 [0x44#8, 0x00#8], .returns 0 [0x88#8, 0x04#8, 0xA1#8, 0xB2#8, 0x9F#8], .returns 0 [0x04#8],
      .returns 0 [0xC3#8, 0xD4#8, 0xE5#8, 0xF6#8, 0x04#8], .returns 0 [0x00#8]]).exchangeAnswers =
      .returns 0 [0x44#8, 0x00#8] ::
        .returns 0 (quadBytes ⟨0x88#8, 0x04#8, 0xA1#8, 0xB2#8⟩ ++ [bcc ⟨0x88#8, 0x04#8, 0xA1#8, 0xB2#8⟩]) ::
        .returns 0 [0x04#8] ::
        .returns 0 (quadBytes ⟨0xC3#8, 0xD4#8, 0xE5#8, 0xF6#8⟩ ++ [bcc ⟨0xC3#8, 0xD4#8, 0xE5#8, 0xF6#8⟩]) ::
        .returns 0 [0x00#8] :: [] ∧
    (ready []).initFlag = true ∧ 5 ≤ (ready []).params.rxLenMax.toNat := by decide +kernel

end Sys2Proof.Tests
end

section
/-! PROOFS. What commands leave of the session registers (10_state.md R46): the shared operations only make exchanges, most
commands then write at most a result, and the others add one write of their own. -/

namespace Sys2Proof.Machine

/-! ### Runs that only make exchanges -/

/-- From s the run only makes exchanges, and what it raises is a failure other than SequenceError, which CheckCascade alone
raises (43_selection.md R207). -/
def Run.Exchanges {α : Type} (r : Run α) (s : State) : Prop :=
  r.Meets (fun _ t => ∃ es, Touched s t es) (fun o t => (o ≠ .ok ∧ o ≠ .sequenceError) ∧ ∃ es, Touched s t es)

/-- From s the run only makes exchanges, and where it returns it ends with one write w. -/
def Run.ExchangesThen (r : Run Unit) (s : State) (w : State → State → Prop) : Prop :=
  r.Meets (fun _ t => ∃ u es, Touched s u es ∧ w u t)
    (fun o t => (o ≠ .ok ∧ o ≠ .sequenceError) ∧ ∃ es, Touched s t es)

/-- t is s with at most RESULT written. -/
def mayReport (s t : State) : Prop := t = s ∨ ∃ bytes, t = s.setResult bytes

section Rules

variable {α β : Type} {r : Run α} {s : State}

/-- Sequencing: each piece starts from the state the piece before it left. -/
theorem Run.Exchanges.andThen {k : α → State → Run β} (h : r.Exchanges s)
    (hk : ∀ a t, r = .ok a t → (k a t).Exchanges t) : (r.andThen k).Exchanges s := by
  cases r with
  | ok a t =>
    obtain ⟨es, ht⟩ := h
    refine (hk a t rfl).mono ?_ ?_
    · rintro _ u ⟨fs, hu⟩
      exact ⟨_, ht.trans hu⟩
    · rintro o u ⟨ho, fs, hu⟩
      exact ⟨ho, _, ht.trans hu⟩
  | raised o t => exact h
  | stuck f => trivial

/-- The final write may follow any exchanges. -/
theorem Run.Exchanges.andThen_write {w : State → State → Prop} {k : α → State → Run Unit} (h : r.Exchanges s)
    (hk : ∀ a t, r = .ok a t → (k a t).ExchangesThen t w) : (r.andThen k).ExchangesThen s w := by
  cases r with
  | ok a t =>
    obtain ⟨es, ht⟩ := h
    refine (hk a t rfl).mono ?_ ?_
    · rintro _ u ⟨v, fs, hv, hu⟩
      exact ⟨v, _, ht.trans hv, hu⟩
    · rintro o u ⟨ho, fs, hu⟩
      exact ⟨ho, _, ht.trans hu⟩
  | raised o t => exact h
  | stuck f => trivial

theorem Run.Exchanges.mayReport {r : Run Unit} (h : r.Exchanges s) : r.ExchangesThen s mayReport :=
  h.mono (fun _ t ⟨es, ht⟩ => ⟨t, es, ht, .inl rfl⟩) fun _ _ h => h

theorem exchanges_ok (a : α) (s : State) : (Run.ok a s).Exchanges s := ⟨[], .refl s⟩

theorem exchangesThen_ok {w : State → State → Prop} {t : State} (h : w s t) : (Run.ok () t).ExchangesThen s w :=
  ⟨s, [], .refl s, h⟩

theorem setResult_mayReport (s : State) (bytes : List Byte) :
    (Run.ok () (s.setResult bytes)).ExchangesThen s mayReport :=
  exchangesThen_ok (.inr ⟨bytes, rfl⟩)

theorem exchangesThen_raised {w : State → State → Prop} {o : CmdOutcome} (s : State)
    (ho : o ≠ .ok ∧ o ≠ .sequenceError) : (Run.raised o s).ExchangesThen s w :=
  ⟨ho, [], .refl s⟩

/-- A check with one outcome that leaves the state alone. -/
theorem exchanges_of_check {ok : α → State → Prop} {e : CmdOutcome}
    (h : r.Meets ok (fun o t => o = e ∧ t = s)) (hok : ∀ a t, ok a t → t = s) (he : e ≠ .ok ∧ e ≠ .sequenceError) :
    r.Exchanges s := by
  refine h.mono ?_ ?_
  · intro a t ht
    exact ⟨[], hok a t ht ▸ .refl s⟩
  · rintro _ _ ⟨rfl, rfl⟩
    exact ⟨he, [], .refl _⟩

end Rules

/-! ### The shared operations -/

theorem transact_exchanges {tx : List Byte} (cap : Nat) (s : State) (h : tx.length ≤ 18) :
    (transact tx cap s).Exchanges s := by
  refine (transact_cases cap s h).mono (fun _ _ h => ⟨_, h.1⟩) ?_
  rintro _ _ ⟨rfl, ht⟩
  exact ⟨by decide, _, ht⟩

theorem transactData_exchanges {p : List Byte} (n : Nat) (s : State) (h : p.length ≤ 16) :
    (transactData p n s).Exchanges s := by
  refine (transactData_cases n s h).mono (fun _ _ h => ⟨_, h.1⟩) ?_
  rintro _ _ ⟨rfl | rfl | rfl, ht⟩ <;> exact ⟨by decide, _, ht⟩

theorem transactAck_exchanges {p : List Byte} (s : State) (h : p.length ≤ 16) : (transactAck p s).Exchanges s := by
  refine (transactAck_cases s h).mono (fun _ _ h => ⟨_, h⟩) ?_
  rintro _ _ ⟨rfl | rfl | rfl, ht⟩ <;> exact ⟨by decide, _, ht⟩

theorem readPageRaw_exchanges (p : Byte) (s : State) : (readPageRaw p s).Exchanges s :=
  transactData_exchanges _ s (by simp)

theorem writePageRaw_exchanges {d : List Byte} (p : Byte) (s : State) (h : d.length = 4) :
    (writePageRaw p d s).Exchanges s :=
  transactAck_exchanges s (by simp [h])

theorem withCrc_exchanges (p : List Byte) (s : State) : (withCrc p s).Exchanges s := ⟨[], touched_computeCrc s p⟩

theorem checkLen_exchanges (rx : List Byte) (n : Nat) (s : State) : (checkLen rx n s).Exchanges s :=
  exchanges_of_check (checkLen_cases rx n s) (fun _ _ h => h.1) (by decide)

theorem checkBcc_exchanges (rx : List Byte) (s : State) : (checkBcc rx s).Exchanges s :=
  exchanges_of_check (checkBcc_cases rx s) (fun _ _ h => h) (by decide)

theorem checkSak_exchanges (rx : List Byte) (e : Byte) (s : State) : (checkSak rx e s).Exchanges s :=
  exchanges_of_check (checkSak_cases rx e s) (fun _ _ h => h.1) (by decide)

theorem checkAtqa_exchanges (rx : List Byte) (s : State) : (checkAtqa rx s).Exchanges s :=
  exchanges_of_check (checkAtqa_cases rx s) (fun _ _ h => h.1) (by decide)

theorem checkCounterAddr_exchanges (a : Byte) (s : State) : (checkCounterAddr a s).Exchanges s :=
  exchanges_of_check (checkCounterAddr_cases a s) (fun _ _ h => h.1) (by decide)

theorem checkAtMost_exchanges (v max : Byte) (s : State) : (checkAtMost v max s).Exchanges s :=
  exchanges_of_check (checkAtMost_cases v max s) (fun _ _ h => h.1) (by decide)

theorem checkCrc_exchanges (rx : List Byte) (s : State) : (checkCrc rx s).Exchanges s := by
  refine (checkCrc_cases rx s).mono ?_ ?_
  · rintro _ _ rfl
    exact ⟨[], touched_computeCrc s _⟩
  · rintro _ _ ⟨rfl, rfl⟩
    exact ⟨by decide, [], touched_computeCrc s _⟩

theorem checkFastRead_exchanges (start stop : Byte) (cap : Word16) (s : State) :
    (checkFastRead start stop cap s).Exchanges s := by
  unfold checkFastRead
  split_ifs
  · exact ⟨by decide, [], .refl s⟩
  · exact ⟨by decide, [], .refl s⟩
  · exact ⟨by decide, [], .refl s⟩
  · exact exchanges_ok () s

/-- CfgSet writes back the four bytes it read, so its frame fits the buffer (46_config.md R301). -/
theorem cfgSet_exchanges (f : Field) (v : Byte) (s : State) : (cfgSet f v s).Exchanges s := by
  refine (readPageRaw_exchanges _ s).andThen fun d t h => writePageRaw_exchanges _ t ?_
  have hd : d.length = 16 := by
    have hm := readPageRaw_cases (fieldPage f s) s
    rw [h] at hm
    exact hm.2
  simp [pageBytes, hd]

theorem getField_mayReport (f : Field) (s : State) : (getField f s).ExchangesThen s mayReport :=
  ((readPageRaw_exchanges _ s).andThen fun _ t _ => exchanges_ok _ t).andThen_write fun v t _ =>
    setResult_mayReport t [v]

theorem anticollision_mayReport (op0 op1 : Byte) (s : State) :
    (anticollision op0 op1 s).ExchangesThen s mayReport :=
  (transact_exchanges 5 s (by simp)).andThen_write fun rx t _ =>
    (checkLen_exchanges rx 5 t).andThen_write fun _ t _ =>
      (checkBcc_exchanges rx t).andThen_write fun _ t _ => setResult_mayReport t _

theorem haltFrame_exchanges (s : State) : (haltFrame s).Exchanges s := by
  unfold haltFrame
  split_ifs
  · exact withCrc_exchanges _ s
  · exact exchanges_ok _ s

/-- The HLTA frame fits the transmit buffer, with its CRC or without (43_selection.md R202). -/
theorem haltFrame_length {tx : List Byte} {s t : State} (h : haltFrame s = .ok tx t) : tx.length ≤ 18 := by
  simp only [haltFrame, withCrc_eq] at h
  split_ifs at h <;> cases h <;> simp

/-! ### The session registers after a command -/

theorem sameSession_refl (s : State) : sameSession s s := ⟨rfl, rfl, rfl, rfl⟩

theorem Touched.sameSession {s t : State} {es : List Event} (h : Touched s t es) : sameSession s t := by
  obtain ⟨_, _, _, _, _, _, _, rfl, _⟩ := h
  exact ⟨rfl, rfl, rfl, rfl⟩

theorem Touched.params_eq {s t : State} {es : List Event} (h : Touched s t es) : t.params = s.params := by
  obtain ⟨_, _, _, _, _, _, _, rfl, _⟩ := h
  rfl

/-- The command c that began in s has ended in t with an outcome and its code (10_state.md R46, last column). -/
def endsAs (c : Opsel) (s t : State) : Prop :=
  ∃ o, t.outcome = some o ∧ t.status = statusCode s.params (some c) o

theorem endsAs_ended {s u : State} (c : Opsel) (o : CmdOutcome) (h : u.params = s.params) :
    endsAs c s (u.ended (some c) o) :=
  ⟨o, rfl, by rw [State.ended_status, h]⟩

/-- The run keeps the parameters, and its session registers are those of a where it returns and those of b where it
raises. -/
def Run.Leaves (r : Run Unit) (s a b : State) : Prop :=
  r.Meets (fun _ t => sameSession a t ∧ t.params = s.params)
    (fun o t => (o ≠ .ok ∧ o ≠ .sequenceError) ∧ sameSession b t ∧ t.params = s.params)

/-- A write with a known effect on the session registers, after exchanges. -/
theorem Run.ExchangesThen.leaves {r : Run Unit} {s a : State} {w : State → State → Prop} (h : r.ExchangesThen s w)
    (hw : ∀ u t, sameSession s u → w u t → sameSession a t ∧ t.params = u.params) : r.Leaves s a s := by
  refine h.mono ?_ fun _ _ ⟨ho, _, ht⟩ => ⟨ho, ht.sameSession, ht.params_eq⟩
  rintro _ t ⟨u, es, hu, ht⟩
  obtain ⟨hs, hp⟩ := hw u t hu.sameSession ht
  exact ⟨hs, hp.trans hu.params_eq⟩

theorem leaves_of_mayReport {r : Run Unit} {s : State} (h : r.ExchangesThen s mayReport) : r.Leaves s s s := by
  refine h.leaves ?_
  rintro u _ hu (rfl | ⟨bytes, rfl⟩)
  · exact ⟨hu, rfl⟩
  · exact ⟨hu, rfl⟩

/-- A failure-path write with a known effect on the session registers. -/
theorem Run.Leaves.onRaise {r : Run Unit} {s a b b' : State} {w : State → State} (h : r.Leaves s a b)
    (hw : ∀ t, sameSession b t → sameSession b' (w t) ∧ (w t).params = t.params) : (r.onRaise w).Leaves s a b' := by
  refine Run.Meets.onRaise h ?_
  rintro o t ⟨ho, hs, hp⟩
  exact ⟨ho, (hw t hs).1, (hw t hs).2.trans hp⟩

/-- REQUEST's and WAKE_UP's body: DTYPE is written on every outcome (43_selection.md R200). -/
theorem requestTag_leaves (op : Byte) (s : State) :
    (requestTag op s).Leaves s { s with dtype := .ultralight } { s with dtype := .invalid } := by
  have hx : ((transact [op] 2 s).andThen atqaChecks).ExchangesThen s
      fun u t => t = ({ u with dtype := .ultralight } : State).setResult [0x01#8] :=
    (transact_exchanges 2 s (by simp)).andThen_write fun rx t _ =>
      ((checkLen_exchanges rx 2 t).andThen fun _ t _ => checkAtqa_exchanges rx t).andThen_write fun _ _ _ =>
        exchangesThen_ok rfl
  rw [requestTag_eq]
  refine (hx.leaves ?_).onRaise ?_
  · rintro u _ ⟨hi, hd, he, hl⟩ rfl
    exact ⟨⟨hi, rfl, he, hl⟩, rfl⟩
  · rintro t ⟨hi, hd, he, hl⟩
    exact ⟨⟨hi, rfl, he, hl⟩, rfl⟩

/-- The body of the SELECT commands: SEL_STATE is written on every outcome (43_selection.md R204, R206). -/
theorem selectLevel_leaves (op0 op1 : Byte) (id : Quad) (sak : Byte) (done : SelState) (s : State) :
    (selectLevel op0 op1 id sak done s).Leaves s { s with selState := done } { s with selState := .notSelected } := by
  have hx : ((withCrc (selectPayload op0 op1 id) s).andThen fun tx s =>
      (transact tx 1 s).andThen (sakChecks sak done)).ExchangesThen s
        fun u t => ∃ rx, t = ({ u with selState := done } : State).setResult rx := by
    refine (withCrc_exchanges _ s).andThen_write fun tx t h => ?_
    have htx : tx.length ≤ 18 := by cases h; simp [selectPayload, le16]
    exact (transact_exchanges 1 t htx).andThen_write fun rx t _ =>
      (checkLen_exchanges rx 1 t).andThen_write fun _ t _ =>
        (checkSak_exchanges rx sak t).andThen_write fun _ _ _ => exchangesThen_ok ⟨rx, rfl⟩
  refine (hx.leaves ?_).onRaise ?_
  · rintro u _ ⟨hi, hd, he, hl⟩ ⟨rx, rfl⟩
    exact ⟨⟨hi, hd, he, rfl⟩, rfl⟩
  · rintro t ⟨hi, hd, he, hl⟩
    exact ⟨⟨hi, hd, he, rfl⟩, rfl⟩

/-- GET_VERSION's body: END_PAGE becomes one of the two known end pages or stays (44_memory_ops.md R230). -/
theorem getVersion_leaves (s : State) : ∃ e, (e = 0x13#8 ∨ e = 0x28#8 ∨ e = s.endPage) ∧
    Run.Leaves ((transactData [s.params.wireOp.getVersion] versionBytes s).andThen fun d s =>
      .ok () { s.setResult d with endPage := inferEndPage (d.getD 6 0#8) s.endPage }) s { s with endPage := e } s := by
  have hx := transactData_exchanges (p := [s.params.wireOp.getVersion]) versionBytes s (by simp)
  have he (x : Byte) : inferEndPage x s.endPage = 0x13#8 ∨ inferEndPage x s.endPage = 0x28#8 ∨
      inferEndPage x s.endPage = s.endPage := by
    unfold inferEndPage endPage20 endPage41
    split_ifs <;> simp
  cases hr : transactData [s.params.wireOp.getVersion] versionBytes s with
  | ok d t =>
    rw [hr] at hx
    obtain ⟨es, ht⟩ := hx
    obtain ⟨hi, hd, hend, hl⟩ := ht.sameSession
    exact ⟨_, he (d.getD 6 0#8), ⟨hi, hd, by rw [← hend], hl⟩, ht.params_eq⟩
  | raised o t =>
    rw [hr] at hx
    obtain ⟨ho, es, ht⟩ := hx
    exact ⟨_, .inr (.inr rfl), ho, ht.sameSession, ht.params_eq⟩
  | stuck f => exact ⟨_, .inr (.inr rfl), trivial⟩

/-- A gated command whose body leaves the session registers of a on its return and those of b on its failure: a row of
10_state.md R46. -/
theorem gated_session {c : Opsel} {s t a b : State} {body : State → Run Unit} (h : gated c s body = .next t)
    (hb : (body s).Leaves s a b) :
    endsAs c s t ∧ t.outcome ≠ some .sequenceError ∧ (t.outcome = some .ok → sameSession a t) ∧
    (s.initFlag = true → t.outcome ≠ some .ok → sameSession b t) ∧ (s.initFlag = false → sameSession s t) := by
  rcases gated_next h hb with ⟨hi, rfl⟩ | ⟨hi, ⟨u, ⟨hu, hp⟩, rfl⟩ | ⟨o, u, ⟨ho, hu, hp⟩, rfl⟩⟩
  · exact ⟨endsAs_ended c _ rfl, by simp, by simp, by simp [hi], fun _ => sameSession_refl s⟩
  · exact ⟨endsAs_ended c _ hp, by simp, fun _ => hu, by simp, by simp [hi]⟩
  · exact ⟨endsAs_ended c o hp, by simpa using ho.2, by simp [ho.1], fun _ _ => hu, by simp [hi]⟩

/-- A row of 10_state.md R46 that writes at Ok only. -/
theorem gated_session_ok {c : Opsel} {s t a : State} {body : State → Run Unit} (h : gated c s body = .next t)
    (hb : (body s).Leaves s a s) :
    ((t.outcome = some .ok → sameSession a t) ∧ (t.outcome ≠ some .ok → sameSession s t)) ∧ endsAs c s t := by
  obtain ⟨hend, -, hok, hbad, hnot⟩ := gated_session h hb
  refine ⟨⟨hok, fun ho => ?_⟩, hend⟩
  cases hi : s.initFlag
  · exact hnot hi
  · exact hbad hi ho

/-- A command that only makes exchanges and writes a result has a row of dashes in 10_state.md R46. -/
theorem mayReport_next {c : Opsel} {s t : State} {body : State → Run Unit} (h : gated c s body = .next t)
    (hb : (body s).ExchangesThen s mayReport) : sameSession s t ∧ endsAs c s t := by
  obtain ⟨⟨hok, hbad⟩, hend⟩ := gated_session_ok h (leaves_of_mayReport hb)
  exact ⟨(em _).elim hok hbad, hend⟩

/-- A command with the cascade check ends SequenceError with every session register kept, or goes on as without it
(43_selection.md R207). -/
theorem cascade_next {c : Opsel} {s t : State} {body : State → Run Unit}
    (h : (gated c s fun s => (checkCascade .cl1Done s).andThen fun _ s => body s) = .next t) :
    t = s.ended (some c) .sequenceError ∨ gated c s body = .next t := by
  cases hi : s.initFlag
  · rw [gated_of_not_init _ _ hi] at h
    exact .inr (by rw [gated_of_not_init _ _ hi, h])
  · rw [gated_of_init _ _ hi] at h
    by_cases hc : s.params.enforceCascadeOrder = true ∧ s.selState ≠ .cl1Done
    · rw [checkCascade_raised hc.1 hc.2] at h
      exact .inl (Host.Outcome.next.inj h).symm
    · rw [checkCascade_ok _ (by simpa [imp_iff_not_or] using hc)] at h
      exact .inr (by rw [gated_of_init _ _ hi]; exact h)

/-! ### The commands that write a session register -/

theorem missingCollaborator_ne_ok (present : BitVec 5) : missingCollaborator present ≠ some .ok := by
  unfold missingCollaborator
  split_ifs <;> simp

/-- A call of the RF front end keeps the session registers and the parameters (00_scope.md R16). -/
theorem nextRfStatus_keeps {s u : State} {st : Nat} (h : nextRfStatus s = (st, u)) :
    sameSession s u ∧ u.params = s.params := by
  unfold nextRfStatus at h
  split at h <;> cases h <;> exact ⟨sameSession_refl s, rfl⟩

/-- Everything INIT can do: a failure clears INIT_FLAG alone, an Ok writes all four registers (42_session.md R180). -/
theorem execInit_next {s t : State} (h : exec .init s = .next t) :
    (∃ (o : CmdOutcome) (u : State), o ≠ .ok ∧ sameSession s u ∧ u.params = s.params ∧
      t = ({ u with initFlag := false } : State).ended (some .init) o) ∨
    ∃ u : State, u.params = s.params ∧ t = u.initialised.ended (some .init) .ok := by
  simp only [exec, execInit, Host.Outcome.next.injEq] at h
  cases hm : missingCollaborator s.collabPresent with
  | some o =>
    have ho : o ≠ .ok := fun ho => missingCollaborator_ne_ok _ (ho ▸ hm)
    rw [hm] at h
    exact .inl ⟨o, s, ho, sameSession_refl s, rfl, h.symm⟩
  | none =>
    rcases hr : nextRfStatus (s.emit .rfInit) with ⟨st, u⟩
    obtain ⟨hs, hp⟩ := nextRfStatus_keeps hr
    simp only [hm, rfInit, hr] at h
    by_cases h0 : st = 0
    · exact .inr ⟨u, hp, by rw [← h, if_neg (not_not.mpr h0)]⟩
    · exact .inl ⟨.operationFailed, u, by decide, hs, hp, by rw [← h, if_pos h0]⟩

theorem init_writes {s t : State} (h : exec .init s = .next t) : sessionWrites .init s t ∧ endsAs .init s t := by
  rcases execInit_next h with ⟨o, u, ho, ⟨_, hd, he, hl⟩, hp, rfl⟩ | ⟨u, hp, rfl⟩
  · exact ⟨⟨by simp [ho], fun _ => ⟨rfl, hd, he, hl⟩⟩, endsAs_ended _ o hp⟩
  · exact ⟨⟨fun _ => ⟨rfl, rfl, rfl, rfl⟩, by simp⟩, endsAs_ended _ _ hp⟩

theorem deinit_writes {s t : State} (h : exec .deinit s = .next t) :
    sessionWrites .deinit s t ∧ endsAs .deinit s t := by
  rcases hr : nextRfStatus (s.emit .rfDeinit) with ⟨st, u⟩
  obtain ⟨⟨hi, hd, he, hl⟩, hp⟩ := nextRfStatus_keeps hr
  refine gated_session_ok (a := { s with initFlag := false }) h ?_
  simp only [rfDeinit, hr]
  split_ifs
  · exact ⟨by decide, ⟨hi, hd, he, hl⟩, hp⟩
  · exact ⟨⟨rfl, hd, he, hl⟩, hp⟩

theorem setStorage_writes {e : Byte} {s t : State} (h : exec (.setStorage e) s = .next t) :
    sessionWrites (.setStorage e) s t ∧ endsAs .setStorage s t :=
  gated_session_ok (a := { s with endPage := e }) h ⟨sameSession_refl _, rfl⟩

theorem getVersion_writes {s t : State} (h : exec .getVersion s = .next t) :
    sessionWrites .getVersion s t ∧ endsAs .getVersion s t := by
  obtain ⟨e, he, hb⟩ := getVersion_leaves s
  obtain ⟨⟨hok, hbad⟩, hend⟩ := gated_session_ok h hb
  refine ⟨⟨fun ho => ?_, hbad⟩, hend⟩
  rcases he with rfl | rfl | rfl
  · exact .inl (hok ho)
  · exact .inr (.inl (hok ho))
  · exact .inr (.inr (hok ho))

theorem request_writes {s t : State} (h : exec .request s = .next t) :
    sessionWrites .request s t ∧ endsAs .request s t := by
  obtain ⟨hend, -, hok, hbad, hnot⟩ := gated_session h (requestTag_leaves _ s.deselect)
  exact ⟨⟨fun _ => hok, hbad, hnot⟩, hend⟩

theorem wakeUp_writes {s t : State} (h : exec .wakeUp s = .next t) :
    sessionWrites .wakeUp s t ∧ endsAs .wakeUp s t := by
  obtain ⟨hend, -, hok, hbad, hnot⟩ :=
    gated_session h (requestTag_leaves _ (delayMs s.params.wupaDelayMs s.deselect))
  exact ⟨⟨fun _ => hok, hbad, hnot⟩, hend⟩

theorem halt_writes {s t : State} (h : exec .halt s = .next t) : sessionWrites .halt s t ∧ endsAs .halt s t := by
  have hb := (haltFrame_exchanges s.deselect).andThen fun tx t ht =>
    (transact_exchanges 1 t (haltFrame_length ht)).andThen fun _ t _ => exchanges_ok () t
  obtain ⟨hend, -, hok, hbad, hnot⟩ :=
    gated_session (a := s.deselect) (b := s.deselect) h (leaves_of_mayReport hb.mayReport)
  exact ⟨⟨fun hi => (em (t.outcome = some .ok)).elim hok (hbad hi), hnot⟩, hend⟩

theorem selectCl1_writes {id : Quad} {s t : State} (h : exec (.selectCl1 id) s = .next t) :
    sessionWrites (.selectCl1 id) s t ∧ endsAs .selectCl1 s t := by
  obtain ⟨hend, -, hok, hbad, hnot⟩ := gated_session h (selectLevel_leaves _ _ id _ _ s)
  exact ⟨⟨fun _ => hok, hbad, hnot⟩, hend⟩

theorem selectCl2_writes {id : Quad} {s t : State} (h : exec (.selectCl2 id) s = .next t) :
    sessionWrites (.selectCl2 id) s t ∧ endsAs .selectCl2 s t := by
  rcases cascade_next h with rfl | h
  · exact ⟨⟨by simp, by simp, fun _ _ => sameSession_refl s, fun _ => sameSession_refl s⟩, endsAs_ended _ _ rfl⟩
  · obtain ⟨hend, hseq, hok, hbad, hnot⟩ := gated_session h (selectLevel_leaves _ _ id _ _ s)
    exact ⟨⟨fun _ => hok, fun hi ho _ => hbad hi ho, fun _ ho => absurd ho hseq, hnot⟩, hend⟩

/-! ### The commands that write no session register -/

theorem info_writes {s t : State} (h : exec .info s = .next t) : sameSession s t ∧ endsAs .info s t := by
  rw [← Host.Outcome.next.inj h]
  exact ⟨sameSession_refl s, endsAs_ended _ _ rfl⟩

theorem crcCheck_writes {data : List Byte} {s t : State} (h : exec (.crcCheck data) s = .next t) :
    sameSession s t ∧ endsAs .crcCheck s t := by
  refine mayReport_next h ?_
  split_ifs
  · exact exchangesThen_raised s (by decide)
  · exact (checkCrc_exchanges data s).andThen_write fun _ t _ => setResult_mayReport t _

theorem anticollCl2_writes {s t : State} (h : exec .anticollCl2 s = .next t) :
    sameSession s t ∧ endsAs .anticollCl2 s t := by
  rcases cascade_next h with rfl | h
  · exact ⟨sameSession_refl s, endsAs_ended _ _ rfl⟩
  · exact mayReport_next h (anticollision_mayReport _ _ s)

theorem authenticate_writes {pwd : Quad} {k0 k1 : Byte} {s t : State}
    (h : exec (.authenticate pwd k0 k1) s = .next t) : sameSession s t ∧ endsAs .authenticate s t := by
  refine mayReport_next h ((transactData_exchanges 2 s (by simp)).andThen_write fun d t _ => ?_)
  split_ifs
  · exact exchangesThen_raised t (by decide)
  · exact setResult_mayReport t d

theorem setAccess_writes {which enable : Byte} {s t : State} (h : exec (.setAccess which enable) s = .next t) :
    sameSession s t ∧ endsAs .setAccess s t := by
  refine mayReport_next h ?_
  split
  · exact exchangesThen_raised s (by decide)
  · exact ((checkAtMost_exchanges enable 1#8 s).andThen fun _ t _ => cfgSet_exchanges _ enable t).mayReport

theorem getAccess_writes {which : Byte} {s t : State} (h : exec (.getAccess which) s = .next t) :
    sameSession s t ∧ endsAs .getAccess s t := by
  refine mayReport_next h ?_
  split
  · exact exchangesThen_raised s (by decide)
  · exact getField_mayReport _ s

/-- The shape of the commands that report what they take from one page read (41_frame_codec.md R150). -/
theorem readPage_mayReport (p : Byte) (f : List Byte → List Byte) (s : State) :
    ((readPageRaw p s).andThen fun d s => .ok () (s.setResult (f d))).ExchangesThen s mayReport :=
  (readPageRaw_exchanges p s).andThen_write fun d t _ => setResult_mayReport t (f d)

/-- The shape of the commands that report what they take from one data exchange (41_frame_codec.md R156). -/
theorem readData_mayReport {p : List Byte} (n : Nat) (f : List Byte → List Byte) (s : State) (h : p.length ≤ 16) :
    ((transactData p n s).andThen fun d s => .ok () (s.setResult (f d))).ExchangesThen s mayReport :=
  (transactData_exchanges n s h).andThen_write fun d t _ => setResult_mayReport t (f d)

/-- Every command that completes has written the session registers of its row of 10_state.md R46, and OUTCOME and STATUS. -/
theorem exec_writes {i : Instr} {s t : State} (h : exec i s = .next t) : sessionWrites i s t ∧ endsAs i.opsel s t := by
  cases i with
  | init => exact init_writes h
  | deinit => exact deinit_writes h
  | info => exact info_writes h
  | setStorage e => exact setStorage_writes h
  | getStorage => exact mayReport_next h (setResult_mayReport s [s.endPage])
  | crc16 data => exact mayReport_next h ⟨s.computeCrc data, [], touched_computeCrc s data, .inr ⟨_, rfl⟩⟩
  | crcCheck data => exact crcCheck_writes h
  | request => exact request_writes h
  | wakeUp => exact wakeUp_writes h
  | halt => exact halt_writes h
  | anticollCl1 => exact mayReport_next h (anticollision_mayReport _ _ s)
  | selectCl1 id => exact selectCl1_writes h
  | anticollCl2 => exact anticollCl2_writes h
  | selectCl2 id => exact selectCl2_writes h
  | getVersion => exact getVersion_writes h
  | readPage p => exact mayReport_next h (readPage_mayReport p (·.take 4) s)
  | readFourPages p => exact mayReport_next h (readPage_mayReport p id s)
  | fastRead start stop cap =>
    exact mayReport_next h ((checkFastRead_exchanges start stop cap s).andThen_write fun _ t _ =>
      readData_mayReport _ id t (by simp))
  | writePage p d => exact mayReport_next h (writePageRaw_exchanges p s (length_quadBytes d)).mayReport
  | compWrite p d =>
    exact mayReport_next h ((transactAck_exchanges s (by simp)).andThen fun _ t _ =>
      transactAck_exchanges t (by simp)).mayReport
  | readSerial => exact mayReport_next h (readPage_mayReport _ serialOf s)
  | otpRead => exact mayReport_next h (readPage_mayReport _ (·.take 4) s)
  | otpWrite d => exact mayReport_next h (writePageRaw_exchanges _ s (length_quadBytes d)).mayReport
  | readSignature => exact mayReport_next h (readData_mayReport _ id s (by simp))
  | readCounter a =>
    exact mayReport_next h ((checkCounterAddr_exchanges a s).andThen_write fun _ t _ =>
      readData_mayReport 3 (· ++ [0x00#8]) t (by simp))
  | incrementCounter a v =>
    exact mayReport_next h ((checkCounterAddr_exchanges a s).andThen fun _ t _ =>
      transactAck_exchanges t (by simp [incrementPayload, le24])).mayReport
  | checkTearing a =>
    exact mayReport_next h ((checkCounterAddr_exchanges a s).andThen_write fun _ t _ =>
      readData_mayReport 1 id t (by simp))
  | authenticate pwd k0 k1 => exact authenticate_writes h
  | setPasswordPack pwd k0 k1 =>
    exact mayReport_next h ((writePageRaw_exchanges _ s (length_quadBytes pwd)).andThen fun _ t _ =>
      writePageRaw_exchanges _ t rfl).mayReport
  | setLock l0 l1 l2 l3 l4 =>
    exact mayReport_next h ((writePageRaw_exchanges _ s rfl).andThen fun _ t _ =>
      writePageRaw_exchanges _ t rfl).mayReport
  | getLock =>
    exact mayReport_next h ((readPageRaw_exchanges _ s).andThen_write fun d t _ =>
      readPage_mayReport _ (lockBytes d) t)
  | setModulation m =>
    exact mayReport_next h ((checkAtMost_exchanges m 1#8 s).andThen fun _ t _ => cfgSet_exchanges .mod m t).mayReport
  | getModulation => exact mayReport_next h (getField_mayReport .mod s)
  | setProtectStart p => exact mayReport_next h (cfgSet_exchanges .auth0 p s).mayReport
  | getProtectStart => exact mayReport_next h (getField_mayReport .auth0 s)
  | setAccess which enable => exact setAccess_writes h
  | getAccess which => exact getAccess_writes h
  | setAuthLimit l =>
    exact mayReport_next h ((checkAtMost_exchanges l 7#8 s).andThen fun _ t _ => cfgSet_exchanges .authlim l t).mayReport
  | getAuthLimit => exact mayReport_next h (getField_mayReport .authlim s)
  | setVctid v => exact mayReport_next h (cfgSet_exchanges .vctid v s).mayReport
  | getVctid => exact mayReport_next h (getField_mayReport .vctid s)

/-- Settles O46: each command's row of the table of 10_state.md R46, from what its body leaves of the session registers. -/
theorem sessionRegisterWriters : Obligations.SessionRegisterWriters :=
  fun _ _ _ h => exec_writes h

end Sys2Proof.Machine
end

section
/-! PROOFS. The CRC function (40_crc.md). One bit of the bit-serial form is linear over xor and loses nothing, since the
polynomial has its top bit set; the byte step is the shifted register and a contribution of one byte, which is what
eight bits make of that byte. -/

namespace Sys2Proof.Machine

/-! ### One bit of the bit-serial form -/

/-- The bits after one bit step: the next higher bit, and the polynomial where the bit that left was one (40_crc.md R122). -/
theorem getLsbD_crcBit (w : Word16) (i : Nat) :
    (crcBit w).getLsbD i = (w.getLsbD (i + 1) ^^ (w.getLsbD 0 && (0x8408#16).getLsbD i)) := by
  cases h : w.getLsbD 0 <;> simp only [crcBit, h] <;> simp [Nat.add_comm 1 i]

theorem crcBit_xor (x y : Word16) : crcBit (x ^^^ y) = crcBit x ^^^ crcBit y := by
  apply BitVec.eq_of_getLsbD_eq
  intro i _
  simp only [getLsbD_crcBit, BitVec.getLsbD_xor, Bool.and_xor_distrib_right, Bool.xor_assoc, Bool.xor_left_comm]

theorem crcBit_of_low_bit_zero {w : Word16} (h : w.getLsbD 0 = false) : crcBit w = w >>> 1 := by
  rw [crcBit, h, if_neg Bool.false_ne_true]

/-- The top bit after a bit step is the bit that left (40_crc.md R122). -/
theorem getLsbD_crcBit_top (w : Word16) : (crcBit w).getLsbD 15 = w.getLsbD 0 := by
  rw [getLsbD_crcBit]; simp

/-- The top bit tells which bit left, so the other bits can be recovered from the rest (40_crc.md R124). -/
theorem crcBit_injective : Function.Injective crcBit := by
  intro x y h
  have hlow : x.getLsbD 0 = y.getLsbD 0 := by rw [← getLsbD_crcBit_top, h, getLsbD_crcBit_top]
  have hhigh (i : Nat) : x.getLsbD (i + 1) = y.getLsbD (i + 1) := by
    have hi := congrArg (·.getLsbD i) h
    simpa only [getLsbD_crcBit, hlow, Bool.xor_left_inj] using hi
  apply BitVec.eq_of_getLsbD_eq
  rintro (_ | i) _
  · exact hlow
  · exact hhigh i

/-! ### Several bits -/

theorem crcBit_iterate_xor (n : Nat) (x y : Word16) : crcBit^[n] (x ^^^ y) = crcBit^[n] x ^^^ crcBit^[n] y := by
  induction n generalizing x y with
  | zero => rfl
  | succ n ih => simp only [Function.iterate_succ_apply, crcBit_xor, ih]

/-- Bits that leave as zeros only shift the register. -/
theorem crcBit_iterate_of_low_bits_zero (n : Nat) {w : Word16} (h : ∀ i < n, w.getLsbD i = false) :
    crcBit^[n] w = w >>> n := by
  induction n generalizing w with
  | zero => simp
  | succ n ih =>
    rw [Function.iterate_succ_apply, crcBit_of_low_bit_zero (h 0 n.succ_pos), ih, ← BitVec.shiftRight_add, Nat.add_comm]
    intro i hi
    rw [BitVec.getLsbD_ushiftRight]
    exact h _ (by omega)

theorem crcStepBitSerial_eq_iterate (w : Word16) (b : Byte) :
    crcStepBitSerial w b = crcBit^[8] (w ^^^ b.setWidth 16) := rfl

/-! ### The byte step -/

/-- What the byte step folds into the shifted register for the byte bt, already xored with the low byte of the register
(40_crc.md R121). -/
def crcSpread (bt : Byte) : Word16 :=
  let z : Word16 := (bt ^^^ (bt <<< 4)).setWidth 16
  (z <<< 8) ^^^ (z <<< 3) ^^^ (z >>> 4)

theorem crcStep_eq_spread (w : Word16) (b : Byte) : crcStep w b = (w >>> 8) ^^^ crcSpread (b ^^^ loByte w) := by
  simp only [crcStep, crcSpread, BitVec.xor_assoc]

/-- Eight bits make of a byte alone what the byte step folds in for it. -/
theorem crcBit_iterate_byte : ∀ b : Byte, crcBit^[8] (b.setWidth 16) = crcSpread b := by decide +kernel

/-- The register without its low byte only moves down during the eight bits. -/
theorem crcBit_iterate_xor_loByte (w : Word16) : crcBit^[8] (w ^^^ (loByte w).setWidth 16) = w >>> 8 := by
  rw [crcBit_iterate_of_low_bits_zero]
  · apply BitVec.eq_of_getLsbD_eq
    intro i _
    simp [loByte]
  · intro i hi
    simp [loByte, hi, Nat.lt_trans hi (by decide : 8 < 16)]

theorem crcStep_eq_bitSerial (w : Word16) (b : Byte) : crcStep w b = crcStepBitSerial w b := by
  have hsplit : w ^^^ b.setWidth 16 = (w ^^^ (loByte w).setWidth 16) ^^^ (b ^^^ loByte w).setWidth 16 := by
    rw [BitVec.setWidth_xor, BitVec.xor_comm (b.setWidth 16), ← BitVec.xor_assoc, BitVec.xor_assoc w, BitVec.xor_self,
      BitVec.xor_zero]
  rw [crcStep_eq_spread, crcStepBitSerial_eq_iterate, hsplit, crcBit_iterate_xor, crcBit_iterate_xor_loByte,
    crcBit_iterate_byte]

/-- Settles O6: both forms split the register into its low byte, xored with the input, and the rest. -/
theorem crcByteStepIsBitSerial : Obligations.CrcByteStepIsBitSerial := by
  refine ⟨crcStep_eq_bitSerial, fun bytes => ?_, by decide⟩
  have hstep : crcStep = crcStepBitSerial := funext₂ crcStep_eq_bitSerial
  rw [crc16, crcFrom, crcSeed, hstep]

/-! ### The residue -/

theorem crcFrom_append (w : Word16) (p q : List Byte) : crcFrom w (p ++ q) = crcFrom (crcFrom w p) q :=
  List.foldl_append

theorem crc16_append (p q : List Byte) : crc16 (p ++ q) = crcFrom (crc16 p) q := crcFrom_append _ p q

/-- The register's own low byte cancels, so the byte step only shifts. -/
theorem crcStep_loByte (w : Word16) : crcStep w (loByte w) = w >>> 8 := by
  have hzero : crcSpread 0#8 = 0#16 := by decide
  rw [crcStep_eq_spread, BitVec.xor_self, hzero, BitVec.xor_zero]

theorem hiByte_eq_loByte_shift (w : Word16) : hiByte w = loByte (w >>> 8) := rfl

/-- From any register, its own two bytes, low byte first, leave zero (40_crc.md R123). -/
theorem crcFrom_le16 (w : Word16) : crcFrom w (le16 w) = 0x0000#16 :=
  calc crcFrom w (le16 w)
      = crcStep (crcStep w (loByte w)) (hiByte w) := rfl
    _ = w >>> 8 >>> 8 := by rw [crcStep_loByte, hiByte_eq_loByte_shift, crcStep_loByte]
    _ = 0x0000#16 := by rw [← BitVec.shiftRight_add]; exact BitVec.ushiftRight_eq_zero (by decide)

/-- Settles O7: the frame's last two bytes are the register's own. -/
theorem crcResidueIsZero : Obligations.CrcResidueIsZero :=
  fun p => ⟨rfl, (crc16_append p _).trans (crcFrom_le16 _)⟩

/-! ### Inputs that differ in one byte -/

/-- The byte step loses nothing of the register (40_crc.md R124). -/
theorem crcStep_register_injective (b : Byte) : Function.Injective (crcStep · b) := by
  intro w v h
  simp only [crcStep_eq_bitSerial, crcStepBitSerial_eq_iterate] at h
  exact (BitVec.xor_left_inj _).mp (crcBit_injective.iterate 8 h)

/-- The byte step loses nothing of the byte (40_crc.md R124). -/
theorem crcStep_byte_injective (w : Word16) : Function.Injective (crcStep w) := by
  intro b c h
  simp only [crcStep_eq_bitSerial, crcStepBitSerial_eq_iterate] at h
  have hext : b.setWidth 16 = c.setWidth 16 := (BitVec.xor_right_inj _).mp (crcBit_injective.iterate 8 h)
  simpa using congrArg (BitVec.setWidth 8) hext

theorem crcFrom_injective (bytes : List Byte) : Function.Injective (crcFrom · bytes) := by
  induction bytes with
  | nil => exact Function.injective_id
  | cons b bytes ih => exact ih.comp (crcStep_register_injective b)

/-- Settles O8: the registers differ after the differing byte, and stay different over the common rest. -/
theorem crcCornerCases : Obligations.CrcCornerCases := by
  refine ⟨rfl, by decide, fun before after b c hbc h => hbc ?_⟩
  rw [crc16_append, crc16_append] at h
  have hstep : crcStep (crc16 before) b = crcStep (crc16 before) c := crcFrom_injective after h
  exact crcStep_byte_injective _ hstep

end Sys2Proof.Machine
end

section
/-! PROOFS. The gate (41_frame_codec.md R142): every command but INIT and INFO is a gated command, so what the gate refuses is
said once for all of them. -/

namespace Sys2Proof.Machine

/-- The gate is the first step of every command but INIT and INFO; one body serves all states (41_frame_codec.md R142). -/
theorem exec_eq_gated {i : Instr} (hinit : i ≠ .init) (hinfo : i ≠ .info) :
    ∃ body : State → Run Unit, ∀ s, exec i s = gated i.opsel s body := by
  cases i with
  | init => exact absurd rfl hinit
  | info => exact absurd rfl hinfo
  | _ => exact ⟨_, fun _ => rfl⟩

/-- Settles O18: the command is gated, and with INIT_FLAG = 0 the gate refuses it whatever its body. -/
theorem gateRefusesWhenNotInitialized : Obligations.GateRefusesWhenNotInitialized := by
  intro i s hinit hinfo hflag
  obtain ⟨body, hgated⟩ := exec_eq_gated hinit hinfo
  rw [hgated, gated_of_not_init i.opsel body hflag]

end Sys2Proof.Machine
end

section
/-! PROOFS. The cascade check (43_selection.md R207): out of order it ends a CL2 command SequenceError at once, and nothing but
the check raises that outcome. -/

namespace Sys2Proof.Machine

/-! ### Out of order -/

/-- Out of cascade order a CL2 command ends before its body, and only STATUS and OUTCOME are written. -/
theorem cascade_refuses (c : Opsel) {s : State} (body : State → Run Unit) (hi : s.initFlag = true)
    (he : s.params.enforceCascadeOrder = true) (hs : s.selState ≠ .cl1Done) :
    (gated c s fun s => (checkCascade .cl1Done s).andThen fun _ s => body s) =
      .next (s.ended (some c) .sequenceError) := by
  rw [gated_of_init _ _ hi, checkCascade_raised he hs, Run.andThen_raised, finish_raised]

/-! ### Runs that do not raise SequenceError -/

/-- Where the run raises, it raises another outcome than SequenceError. -/
def Run.AvoidsSequenceError {α : Type} (r : Run α) : Prop :=
  r.Meets (fun _ _ => True) (fun o _ => o ≠ .sequenceError)

/-- What is known of the failures of a run that makes exchanges excludes SequenceError. -/
theorem avoids_of_meets {α : Type} {r : Run α} {ok : α → State → Prop} {p : CmdOutcome → State → Prop}
    (h : r.Meets ok fun o t => (o ≠ .ok ∧ o ≠ .sequenceError) ∧ p o t) : r.AvoidsSequenceError :=
  h.mono (fun _ _ _ => trivial) fun _ _ ⟨⟨_, ho⟩, _⟩ => ho

theorem avoids_ok {α : Type} (a : α) (s : State) : (Run.ok a s).AvoidsSequenceError := trivial

theorem avoids_raised {α : Type} {o : CmdOutcome} (s : State) (ho : o ≠ .sequenceError) :
    (Run.raised o s : Run α).AvoidsSequenceError := ho

/-- A step that raises on a condition and goes on with r otherwise. -/
theorem avoids_raise_if {α : Type} {p : Prop} [Decidable p] {o : CmdOutcome} {r : Run α} (s : State)
    (ho : o ≠ .sequenceError) (hr : r.AvoidsSequenceError) :
    (if p then .raised o s else r : Run α).AvoidsSequenceError := by
  split_ifs
  · exact avoids_raised s ho
  · exact hr

theorem Run.AvoidsSequenceError.andThen {α β : Type} {r : Run α} {k : α → State → Run β} (h : r.AvoidsSequenceError)
    (hk : ∀ a t, (k a t).AvoidsSequenceError) : (r.andThen k).AvoidsSequenceError :=
  Run.Meets.andThen h fun a t _ => hk a t

/-- A gated command whose body does not raise SequenceError does not end with it; the gate raises another outcome. -/
theorem gated_ne_sequenceError {c : Opsel} {s t : State} {body : State → Run Unit} (h : gated c s body = .next t)
    (hb : (body s).AvoidsSequenceError) : t.outcome ≠ some .sequenceError := by
  rcases gated_next h hb with ⟨_, rfl⟩ | ⟨_, ⟨u, _, rfl⟩ | ⟨o, u, ho, rfl⟩⟩
  · simp
  · simp
  · simpa using ho

/-- A CL2 command ends SequenceError only out of cascade order: with the check passed, its body decides. -/
theorem cascade_of_sequenceError {c : Opsel} {s t : State} {body : State → Run Unit}
    (h : (gated c s fun s => (checkCascade .cl1Done s).andThen fun _ s => body s) = .next t)
    (hb : (body s).AvoidsSequenceError) (ho : t.outcome = some .sequenceError) :
    s.params.enforceCascadeOrder = true ∧ s.selState ≠ .cl1Done := by
  by_contra hc
  have hpass : checkCascade .cl1Done s = .ok () s := checkCascade_ok _ (by simpa [imp_iff_not_or] using hc)
  refine gated_ne_sequenceError h ?_ ho
  rw [hpass]
  exact hb

/-! ### The shared operations -/

/-- An exchange itself raises nothing (00_scope.md R16). -/
theorem exchange_avoids (tx : List Byte) (cap : Nat) (s : State) : (exchange tx cap s).AvoidsSequenceError := by
  simp only [exchange]
  split <;> trivial

theorem transact_avoids (tx : List Byte) (cap : Nat) (s : State) : (transact tx cap s).AvoidsSequenceError :=
  (exchange_avoids tx cap s).andThen fun _ t => avoids_raise_if t (by decide) (avoids_ok _ t)

theorem transactData_avoids (p : List Byte) (n : Nat) (s : State) : (transactData p n s).AvoidsSequenceError :=
  (transact_avoids _ _ _).andThen fun rx t =>
    (avoids_of_meets (checkLen_exchanges rx _ t)).andThen fun _ t =>
      (avoids_of_meets (checkCrc_exchanges rx t)).andThen fun _ t => avoids_ok _ t

theorem transactAck_avoids (p : List Byte) (s : State) : (transactAck p s).AvoidsSequenceError :=
  (transact_avoids _ _ _).andThen fun rx t =>
    (avoids_of_meets (checkLen_exchanges rx _ t)).andThen fun _ t =>
      (checkAck_cases rx t).mono (fun _ _ _ => trivial) fun _ _ ⟨ho, _⟩ => by simp [ho]

/-- The shape of the commands that report what they take from one data exchange. -/
theorem readData_avoids (p : List Byte) (n : Nat) (w : List Byte → State → State) (s : State) :
    ((transactData p n s).andThen fun d t => .ok () (w d t)).AvoidsSequenceError :=
  (transactData_avoids p n s).andThen fun _ _ => avoids_ok () _

theorem cfgSet_avoids (f : Field) (v : Byte) (s : State) : (cfgSet f v s).AvoidsSequenceError :=
  avoids_of_meets (cfgSet_exchanges f v s)

theorem getField_avoids (f : Field) (s : State) : (getField f s).AvoidsSequenceError :=
  avoids_of_meets (getField_mayReport f s)

theorem anticollision_avoids (op0 op1 : Byte) (s : State) : (anticollision op0 op1 s).AvoidsSequenceError :=
  avoids_of_meets (anticollision_mayReport op0 op1 s)

theorem requestTag_avoids (op : Byte) (s : State) : (requestTag op s).AvoidsSequenceError :=
  avoids_of_meets (requestTag_leaves op s)

theorem selectLevel_avoids (op0 op1 : Byte) (id : Quad) (sak : Byte) (done : SelState) (s : State) :
    (selectLevel op0 op1 id sak done s).AvoidsSequenceError :=
  avoids_of_meets (selectLevel_leaves op0 op1 id sak done s)

theorem checkCounterAddr_avoids (a : Byte) (s : State) : (checkCounterAddr a s).AvoidsSequenceError :=
  avoids_of_meets (checkCounterAddr_exchanges a s)

/-- The shape of the configuration commands that bound their value: the check, then the write (46_config.md R301). -/
theorem checkedCfgSet_avoids (f : Field) (v max : Byte) (s : State) :
    ((checkAtMost v max s).andThen fun _ t => cfgSet f v t).AvoidsSequenceError :=
  (avoids_of_meets (checkAtMost_exchanges v max s)).andThen fun _ t => cfgSet_avoids f v t

/-! ### The commands -/

theorem missingCollaborator_ne_sequenceError (present : BitVec 5) :
    missingCollaborator present ≠ some .sequenceError := by
  unfold missingCollaborator
  split_ifs <;> simp

theorem init_ne_sequenceError {s t : State} (h : exec .init s = .next t) : t.outcome ≠ some .sequenceError := by
  rw [← Host.Outcome.next.inj h]
  split
  next o hm =>
    rintro ⟨⟩
    exact missingCollaborator_ne_sequenceError _ hm
  next =>
    dsimp only
    split_ifs <;> simp

/-- No other command than the two of cascade level 2 ends SequenceError. -/
theorem ne_sequenceError_of_not_cl2 {i : Instr} {s t : State} (h : exec i s = .next t) (ha : i ≠ .anticollCl2)
    (hs : ∀ id, i ≠ .selectCl2 id) : t.outcome ≠ some .sequenceError := by
  cases i with
  | anticollCl2 => exact absurd rfl ha
  | selectCl2 id => exact absurd rfl (hs id)
  | init => exact init_ne_sequenceError h
  | info => rw [← Host.Outcome.next.inj h]; simp
  | deinit => exact gated_ne_sequenceError h (avoids_raise_if _ (by decide) (avoids_ok () _))
  | setStorage | getStorage | crc16 => exact gated_ne_sequenceError h (avoids_ok () _)
  | crcCheck data =>
    exact gated_ne_sequenceError h <| avoids_raise_if s (by decide) <|
      (avoids_of_meets (checkCrc_exchanges data s)).andThen fun _ _ => avoids_ok () _
  | request | wakeUp => exact gated_ne_sequenceError h (requestTag_avoids _ _)
  | halt =>
    exact gated_ne_sequenceError h <| (avoids_of_meets (haltFrame_exchanges _)).andThen fun _ _ =>
      (transact_avoids _ _ _).andThen fun _ _ => avoids_ok () _
  | anticollCl1 => exact gated_ne_sequenceError h (anticollision_avoids _ _ s)
  | selectCl1 id => exact gated_ne_sequenceError h (selectLevel_avoids _ _ id _ _ s)
  | getVersion | readPage | readFourPages | readSerial | otpRead | readSignature =>
    exact gated_ne_sequenceError h (readData_avoids _ _ _ s)
  | fastRead start stop cap =>
    exact gated_ne_sequenceError h <| (avoids_of_meets (checkFastRead_exchanges start stop cap s)).andThen fun _ _ =>
      readData_avoids _ _ _ _
  | writePage | otpWrite => exact gated_ne_sequenceError h (transactAck_avoids _ s)
  | compWrite | setPasswordPack | setLock =>
    exact gated_ne_sequenceError h <| (transactAck_avoids _ s).andThen fun _ _ => transactAck_avoids _ _
  | readCounter a | checkTearing a =>
    exact gated_ne_sequenceError h <| (checkCounterAddr_avoids a s).andThen fun _ _ => readData_avoids _ _ _ _
  | incrementCounter a v =>
    exact gated_ne_sequenceError h <| (checkCounterAddr_avoids a s).andThen fun _ _ => transactAck_avoids _ _
  | authenticate pwd k0 k1 =>
    exact gated_ne_sequenceError h <| (transactData_avoids _ _ s).andThen fun _ t =>
      avoids_raise_if t (by decide) (avoids_ok () _)
  | getLock =>
    exact gated_ne_sequenceError h <| (transactData_avoids _ _ s).andThen fun _ _ => readData_avoids _ _ _ _
  | setModulation m => exact gated_ne_sequenceError h (checkedCfgSet_avoids .mod m 1#8 s)
  | setAuthLimit l => exact gated_ne_sequenceError h (checkedCfgSet_avoids .authlim l 7#8 s)
  | setProtectStart | setVctid => exact gated_ne_sequenceError h (cfgSet_avoids _ _ s)
  | setAccess which enable =>
    refine gated_ne_sequenceError h ?_
    split
    · exact avoids_raised s (by decide)
    · exact checkedCfgSet_avoids _ enable 1#8 s
  | getAccess which =>
    refine gated_ne_sequenceError h ?_
    split
    · exact avoids_raised s (by decide)
    · exact getField_avoids _ s
  | getModulation | getProtectStart | getAuthLimit | getVctid =>
    exact gated_ne_sequenceError h (getField_avoids _ s)

/-- A command that ends SequenceError is one of cascade level 2, out of cascade order. -/
theorem sequenceError_only_cl2 {i : Instr} {s t : State} (h : exec i s = .next t)
    (ho : t.outcome = some .sequenceError) :
    (i = .anticollCl2 ∨ ∃ id, i = .selectCl2 id) ∧ s.params.enforceCascadeOrder = true ∧ s.selState ≠ .cl1Done := by
  by_cases ha : i = .anticollCl2
  · subst ha
    exact ⟨.inl rfl, cascade_of_sequenceError h (anticollision_avoids _ _ s) ho⟩
  by_cases hs : ∃ id, i = .selectCl2 id
  · obtain ⟨id, rfl⟩ := hs
    exact ⟨.inr ⟨id, rfl⟩, cascade_of_sequenceError h (selectLevel_avoids _ _ id _ _ s) ho⟩
  · exact absurd ho (ne_sequenceError_of_not_cl2 h ha (not_exists.mp hs))

/-- Settles O44: out of order the check raises before the body runs, and no other part of any command raises SequenceError. -/
theorem cascadeCheckMeaning : Obligations.CascadeCheckMeaning :=
  fun _ => ⟨fun hi he hs => ⟨cascade_refuses _ _ hi he hs, fun _ => cascade_refuses _ _ hi he hs⟩,
    fun _ _ h ho => sequenceError_only_cl2 h ho⟩

end Sys2Proof.Machine
end

section
/-! PROOFS. The outcomes of each command (60_exceptions.md R340, R343): a command ends Ok or with a failure of its own list, and
an illegal descriptor ends IllegalCommand. NullHandle stands in no list (R351). -/

namespace Sys2Proof.Machine

/-! ### The lists -/

/-- What a data exchange can raise, as the list of dataFailure (41_frame_codec.md R152). -/
def dataFailures : List CmdOutcome := [.transportFailed, .invalidResponseLength, .checksumError]

/-- What an acknowledged exchange can raise, as the list of ackFailure (41_frame_codec.md R152). -/
def ackFailures : List CmdOutcome := [.transportFailed, .invalidResponseLength, .ackError]

/-- The outcomes other than Ok with which a command can end, in the order of 60_exceptions.md R343. -/
def failures : Opsel → List CmdOutcome
  | .init =>
    [.missingDebugSink, .missingInit, .missingDeinit, .missingTransceiver, .missingDelay, .operationFailed]
  | .deinit => [.notInitialized, .operationFailed]
  | .info => []
  | .setStorage | .getStorage | .crc16 => [.notInitialized]
  | .crcCheck => [.notInitialized, .invalidResponseLength, .checksumError]
  | .request | .wakeUp => [.notInitialized, .transportFailed, .invalidResponseLength, .typeInvalid]
  | .halt => [.notInitialized, .transportFailed]
  | .anticollCl1 => .notInitialized :: dataFailures
  | .anticollCl2 => .notInitialized :: .sequenceError :: dataFailures
  | .selectCl1 => [.notInitialized, .transportFailed, .invalidResponseLength, .sakError]
  | .selectCl2 => [.notInitialized, .sequenceError, .transportFailed, .invalidResponseLength, .sakError]
  | .getVersion | .readPage | .readFourPages | .readSerial | .otpRead | .readSignature | .getLock =>
    .notInitialized :: dataFailures
  | .fastRead => .notInitialized :: .invalidRange :: .rangeTooLarge :: .bufferTooSmall :: dataFailures
  | .writePage | .otpWrite | .compWrite | .setPasswordPack | .setLock => .notInitialized :: ackFailures
  | .readCounter | .checkTearing => .notInitialized :: .invalidAddress :: dataFailures
  | .incrementCounter => .notInitialized :: .invalidAddress :: ackFailures
  | .authenticate => .notInitialized :: (dataFailures ++ [.packMismatch])
  | .setProtectStart | .setVctid => .notInitialized :: (dataFailures ++ ackFailures)
  | .setModulation | .setAccess | .setAuthLimit =>
    .notInitialized :: .invalidParameter :: (dataFailures ++ ackFailures)
  | .getModulation | .getProtectStart | .getAuthLimit | .getVctid => .notInitialized :: dataFailures
  | .getAccess => .notInitialized :: .invalidParameter :: dataFailures

/-- The last command ended Ok or with an outcome of l. -/
def State.endsIn (t : State) (l : List CmdOutcome) : Prop := ∃ o ∈ CmdOutcome.ok :: l, t.outcome = some o

theorem endsIn_ok (s : State) (c : Option Opsel) (l : List CmdOutcome) : (s.ended c .ok).endsIn l :=
  ⟨.ok, List.mem_cons_self, rfl⟩

theorem endsIn_failure (s : State) (c : Option Opsel) {o : CmdOutcome} {l : List CmdOutcome} (ho : o ∈ l) :
    (s.ended c o).endsIn l :=
  ⟨o, List.mem_cons_of_mem _ ho, rfl⟩

/-! ### Runs that raise outcomes of a list -/

/-- Where the run raises, it raises an outcome of l. -/
def Run.RaisesIn {α : Type} (r : Run α) (l : List CmdOutcome) : Prop :=
  r.Meets (fun _ _ => True) (fun o _ => o ∈ l)

section Rules

variable {α β : Type} {r : Run α} {l l' : List CmdOutcome}

theorem raisesIn_ok (a : α) (s : State) : (Run.ok a s).RaisesIn l := trivial

theorem raisesIn_raised (o : CmdOutcome) (s : State) : (Run.raised o s : Run α).RaisesIn (o :: l) :=
  List.mem_cons_self

theorem Run.RaisesIn.mono (h : r.RaisesIn l) (hl : l ⊆ l') : r.RaisesIn l' :=
  Run.Meets.mono h (fun _ _ _ => trivial) fun _ _ ho => hl ho

/-- A step that raises on a condition and goes on with r otherwise. -/
theorem Run.RaisesIn.raise_if {p : Prop} [Decidable p] {o : CmdOutcome} {s : State} (h : r.RaisesIn l) :
    (if p then .raised o s else r : Run α).RaisesIn (o :: l) := by
  split_ifs
  · exact raisesIn_raised o s
  · exact h.mono (List.subset_cons_self o l)

/-- A check that raises o or goes on. -/
theorem raisesIn_check {p : Prop} [Decidable p] (o : CmdOutcome) (a : α) (s t : State) :
    (if p then .raised o s else .ok a t : Run α).RaisesIn [o] :=
  (raisesIn_ok a t).raise_if

theorem Run.RaisesIn.andThen {k : α → State → Run β} (h : r.RaisesIn l) (hk : ∀ a t, (k a t).RaisesIn l) :
    (r.andThen k).RaisesIn l :=
  Run.Meets.andThen h fun a t _ => hk a t

/-- Sequencing of two pieces with lists of their own. -/
theorem Run.RaisesIn.append {k : α → State → Run β} (h : r.RaisesIn l) (hk : ∀ a t, (k a t).RaisesIn l') :
    (r.andThen k).RaisesIn (l ++ l') :=
  (h.mono (List.subset_append_left l l')).andThen fun a t => (hk a t).mono (List.subset_append_right l l')

theorem Run.RaisesIn.onRaise {w : State → State} (h : r.RaisesIn l) : (r.onRaise w).RaisesIn l :=
  Run.Meets.onRaise h fun _ _ ho => ho

/-- A gated command ends Ok, with a failure of its body, or NotInitialized. -/
theorem gated_endsIn {c : Opsel} {s t : State} {body : State → Run Unit} (h : gated c s body = .next t)
    (hb : (body s).RaisesIn l) : t.endsIn (.notInitialized :: l) := by
  rcases gated_next h hb with ⟨_, rfl⟩ | ⟨_, ⟨u, _, rfl⟩ | ⟨o, u, ho, rfl⟩⟩
  · exact endsIn_failure s _ List.mem_cons_self
  · exact endsIn_ok u _ _
  · exact endsIn_failure u _ (List.mem_cons_of_mem _ ho)

end Rules

/-! ### The shared operations -/

/-- An exchange itself raises nothing (00_scope.md R16). -/
theorem exchange_raises (tx : List Byte) (cap : Nat) (s : State) (l : List CmdOutcome) :
    (exchange tx cap s).RaisesIn l := by
  simp only [exchange]
  split <;> trivial

theorem transact_raises (tx : List Byte) (cap : Nat) (s : State) :
    (transact tx cap s).RaisesIn [.transportFailed] :=
  (exchange_raises tx cap s _).andThen fun _ t => raisesIn_check _ _ t t

theorem transactData_raises (p : List Byte) (n : Nat) (s : State) : (transactData p n s).RaisesIn dataFailures :=
  (transact_raises _ _ _).append fun _ t =>
    (raisesIn_check .invalidResponseLength () t t).append fun _ _ =>
      (raisesIn_check .checksumError () _ _).andThen fun _ t => raisesIn_ok _ t

theorem transactAck_raises (p : List Byte) (s : State) : (transactAck p s).RaisesIn ackFailures :=
  (transact_raises _ _ _).append fun _ t =>
    (raisesIn_check .invalidResponseLength () t t).append fun _ t => raisesIn_check .ackError () t t

/-- The shape of the commands that report what they take from one data exchange. -/
theorem readData_raises (p : List Byte) (n : Nat) (w : List Byte → State → State) (s : State) :
    ((transactData p n s).andThen fun d t => .ok () (w d t)).RaisesIn dataFailures :=
  (transactData_raises p n s).andThen fun _ _ => raisesIn_ok () _

theorem cfgSet_raises (f : Field) (v : Byte) (s : State) : (cfgSet f v s).RaisesIn (dataFailures ++ ackFailures) :=
  (transactData_raises _ _ s).append fun _ t => transactAck_raises _ t

theorem getField_raises (f : Field) (s : State) : (getField f s).RaisesIn dataFailures :=
  ((transactData_raises _ _ s).andThen fun _ t => raisesIn_ok _ t).andThen fun _ _ => raisesIn_ok () _

/-- The check of a value, then the write (46_config.md R301). -/
theorem checkedCfgSet_raises (f : Field) (v max : Byte) (s : State) :
    ((checkAtMost v max s).andThen fun _ t => cfgSet f v t).RaisesIn
      (.invalidParameter :: (dataFailures ++ ackFailures)) :=
  (raisesIn_check .invalidParameter () s s).append fun _ t => cfgSet_raises f v t

theorem checkFastRead_raises (start stop : Byte) (cap : Word16) (s : State) :
    (checkFastRead start stop cap s).RaisesIn [.invalidRange, .rangeTooLarge, .bufferTooSmall] :=
  (raisesIn_check _ () s s).raise_if.raise_if

theorem requestTag_raises (op : Byte) (s : State) :
    (requestTag op s).RaisesIn [.transportFailed, .invalidResponseLength, .typeInvalid] :=
  ((transact_raises _ _ s).append fun _ t =>
    (raisesIn_check .invalidResponseLength () t t).append fun _ t =>
      raisesIn_check .typeInvalid () t t).onRaise.andThen fun _ _ => raisesIn_ok () _

theorem haltFrame_raises (s : State) (l : List CmdOutcome) : (haltFrame s).RaisesIn l := by
  unfold haltFrame
  split_ifs
  · exact raisesIn_ok _ _
  · exact raisesIn_ok _ s

theorem anticollision_raises (op0 op1 : Byte) (s : State) : (anticollision op0 op1 s).RaisesIn dataFailures :=
  (transact_raises _ _ s).append fun _ t =>
    (raisesIn_check .invalidResponseLength () t t).append fun _ t =>
      (raisesIn_check .checksumError () t t).andThen fun _ _ => raisesIn_ok () _

theorem selectLevel_raises (op0 op1 : Byte) (id : Quad) (sak : Byte) (done : SelState) (s : State) :
    (selectLevel op0 op1 id sak done s).RaisesIn [.transportFailed, .invalidResponseLength, .sakError] :=
  Run.RaisesIn.onRaise <| (transact_raises _ _ _).append fun _ t =>
    (raisesIn_check .invalidResponseLength () t t).append fun _ t =>
      (raisesIn_check .sakError () t t).andThen fun _ _ => raisesIn_ok () _

/-! ### The commands -/

theorem missingCollaborator_mem {present : BitVec 5} {o : CmdOutcome} (h : missingCollaborator present = some o) :
    o ∈ failures .init := by
  unfold missingCollaborator at h
  split_ifs at h <;> cases h <;> decide

theorem init_endsIn {s t : State} (h : exec .init s = .next t) : t.endsIn (failures .init) := by
  rw [← Host.Outcome.next.inj h]
  split
  next o hm => exact endsIn_failure _ _ (missingCollaborator_mem hm)
  next =>
    dsimp only
    split_ifs
    · exact endsIn_failure _ _ (by decide)
    · exact endsIn_ok _ _ _

/-- Every command that completes ends Ok or with a failure of its list (60_exceptions.md R340, R343). -/
theorem exec_endsIn {i : Instr} {s t : State} (h : exec i s = .next t) : t.endsIn (failures i.opsel) := by
  cases i with
  | init => exact init_endsIn h
  | info => rw [← Host.Outcome.next.inj h]; exact endsIn_ok _ _ _
  | deinit => exact gated_endsIn h (raisesIn_check _ () _ _)
  | setStorage | getStorage | crc16 => exact gated_endsIn h (raisesIn_ok () _)
  | crcCheck data =>
    exact gated_endsIn h <| Run.RaisesIn.raise_if <|
      (raisesIn_check .checksumError () _ _).andThen fun _ _ => raisesIn_ok () _
  | request | wakeUp => exact gated_endsIn h (requestTag_raises _ _)
  | halt =>
    exact gated_endsIn h <| (haltFrame_raises _ _).andThen fun _ _ =>
      (transact_raises _ _ _).andThen fun _ _ => raisesIn_ok () _
  | anticollCl1 => exact gated_endsIn h (anticollision_raises _ _ s)
  | anticollCl2 =>
    exact gated_endsIn h <| (raisesIn_check .sequenceError () s s).append fun _ _ => anticollision_raises _ _ _
  | selectCl1 id => exact gated_endsIn h (selectLevel_raises _ _ id _ _ s)
  | selectCl2 id =>
    exact gated_endsIn h <| (raisesIn_check .sequenceError () s s).append fun _ _ => selectLevel_raises _ _ id _ _ _
  | getVersion | readPage | readFourPages | readSerial | otpRead | readSignature =>
    exact gated_endsIn h (readData_raises _ _ _ s)
  | fastRead start stop cap =>
    exact gated_endsIn h <| (checkFastRead_raises start stop cap s).append fun _ _ => readData_raises _ _ _ _
  | writePage | otpWrite => exact gated_endsIn h (transactAck_raises _ s)
  | compWrite | setPasswordPack | setLock =>
    exact gated_endsIn h <| (transactAck_raises _ s).andThen fun _ _ => transactAck_raises _ _
  | readCounter a | checkTearing a =>
    exact gated_endsIn h <| (raisesIn_check .invalidAddress () s s).append fun _ _ => readData_raises _ _ _ _
  | incrementCounter a v =>
    exact gated_endsIn h <| (raisesIn_check .invalidAddress () s s).append fun _ _ => transactAck_raises _ _
  | authenticate pwd k0 k1 =>
    exact gated_endsIn h <| (transactData_raises _ _ s).append fun _ t => raisesIn_check .packMismatch () t _
  | getLock => exact gated_endsIn h <| (transactData_raises _ _ s).andThen fun _ _ => readData_raises _ _ _ _
  | setModulation m => exact gated_endsIn h (checkedCfgSet_raises .mod m 1#8 s)
  | setAuthLimit v => exact gated_endsIn h (checkedCfgSet_raises .authlim v 7#8 s)
  | setProtectStart | setVctid => exact gated_endsIn h (cfgSet_raises _ _ s)
  | setAccess which enable =>
    refine gated_endsIn h ?_
    split
    · exact raisesIn_raised _ s
    · exact checkedCfgSet_raises _ enable 1#8 s
  | getAccess which =>
    refine gated_endsIn (l := .invalidParameter :: dataFailures) h ?_
    split
    · exact raisesIn_raised _ s
    · exact (getField_raises _ s).mono (List.subset_cons_self _ _)
  | getModulation | getProtectStart | getAuthLimit | getVctid => exact gated_endsIn h (getField_raises _ s)

/-- Everything a step can do to OUTCOME: keep it while the block waits, end a command within its list, or end an illegal
descriptor (10_state.md R43, 30_encoding.md R85). -/
theorem step_outcome {s t : State} (h : step s = .next t) :
    t = s ∨ (∃ c, t.endsIn (failures c)) ∨ t.outcome = some .illegalCommand := by
  unfold step at h
  split at h
  · exact .inl (Host.Outcome.next.inj h).symm
  · split at h
    · exact .inr (.inl ⟨_, exec_endsIn h⟩)
    · exact .inr (.inr (by rw [← Host.Outcome.next.inj h, State.ended_outcome]))

/-! ### NullHandle -/

theorem nullHandle_not_mem_failures (c : Opsel) : CmdOutcome.nullHandle ∉ failures c := by
  cases c <;> decide

/-- A command that has ended within a list has another outcome than NullHandle. -/
theorem ne_nullHandle_of_endsIn {c : Opsel} {t : State} (h : t.endsIn (failures c)) : t.outcome ≠ some .nullHandle := by
  obtain ⟨o, ho, ht⟩ := h
  rw [ht]
  rintro ⟨⟩
  rcases List.mem_cons.mp ho with ho | ho
  · cases ho
  · exact nullHandle_not_mem_failures c ho

/-- Without overrides the code of an outcome is the default one (60_exceptions.md R342). -/
theorem statusCode_of_no_overrides {p : Params} (h : p.statusOverrides = []) (c : Option Opsel) (o : CmdOutcome) :
    statusCode p c o = defaultStatusCode c o := by
  simp [statusCode, h]

/-- Settles O50: no command's list of failures has NullHandle, and an illegal descriptor has an outcome of its own. -/
theorem nullHandleIsNeverRaised : Obligations.NullHandleIsNeverRaised := by
  refine ⟨fun p c h => ?_, fun s t h hs => ?_, fun i s t h => ne_nullHandle_of_endsIn (exec_endsIn h)⟩
  · rw [statusCode_of_no_overrides h]
    simp [defaultStatusCode, commonStatusCode]
  · rcases step_outcome h with rfl | ⟨c, hc⟩ | ho
    · exact hs
    · exact ne_nullHandle_of_endsIn hc
    · simp [ho]

end Sys2Proof.Machine
end

section
/-! PROOFS. Reset, INIT and RESULT (70_reset_and_hazards.md R380, R383, R391): RESULT is written by a command's last write
alone, just before it returns Ok, so whatever a command raises it raises with RESULT as it found it. -/

namespace Sys2Proof.Machine

/-! ### Power-on -/

/-- Settles O12, by evaluating the power-on state. -/
theorem powerOnState : Obligations.PowerOnState :=
  ⟨rfl, rfl, rfl, rfl, rfl, rfl, rfl⟩

/-! ### Keeping RESULT -/

/-- RESULT and RESULT_LEN are the same. -/
def sameResult (s t : State) : Prop := t.result = s.result ∧ t.resultLen = s.resultLen

theorem sameResult_refl (s : State) : sameResult s s := ⟨rfl, rfl⟩

theorem sameResult.trans {s t u : State} (h : sameResult s t) (h' : sameResult t u) : sameResult s u :=
  ⟨h'.1.trans h.1, h'.2.trans h.2⟩

theorem Touched.sameResult {s t : State} {es : List Event} (h : Touched s t es) : sameResult s t := by
  obtain ⟨_, _, _, _, _, _, _, rfl, _⟩ := h
  exact ⟨rfl, rfl⟩

/-- A call of the RF front end keeps RESULT (00_scope.md R16). -/
theorem nextRfStatus_sameResult (s : State) : sameResult s (nextRfStatus s).2 := by
  unfold nextRfStatus
  split <;> exact sameResult_refl s

/-! ### INIT -/

/-- INIT writes no result, however it ends (42_session.md R180). -/
theorem init_sameResult {s t : State} (h : exec .init s = .next t) : sameResult s t := by
  have hrf : sameResult s (rfInit s).2 := nextRfStatus_sameResult (s.emit .rfInit)
  rw [← Host.Outcome.next.inj h]
  split
  next => exact sameResult_refl s
  next =>
    dsimp only
    split_ifs
    · exact hrf
    · exact hrf

/-- Settles O14: INIT's row of 10_state.md R46, with RESULT kept and the default code of Ok. -/
theorem stateAfterSuccessfulInit : Obligations.StateAfterSuccessfulInit := by
  intro s t h hok
  obtain ⟨⟨hwrites, -⟩, o, ho, hstatus⟩ := init_writes h
  obtain ⟨hflag, hdtype, hend, hsel⟩ := hwrites hok
  obtain ⟨hresult, hlen⟩ := init_sameResult h
  obtain rfl : o = .ok := Option.some.inj (ho.symm.trans hok)
  refine ⟨hflag, hdtype, hend, hsel, hresult, hlen, fun hno => ?_⟩
  rw [hstatus, statusCode_of_no_overrides hno]
  rfl

/-! ### Runs that raise with RESULT kept -/

/-- Where the run raises, RESULT is as it was in s. -/
def Run.RaisesKeepingResult {α : Type} (r : Run α) (s : State) : Prop :=
  r.Meets (fun _ _ => True) (fun _ t => sameResult s t)

section Rules

variable {α : Type} {r : Run α} {s : State}

theorem raisesKeepingResult_ok (a : α) (s t : State) : (Run.ok a t).RaisesKeepingResult s := trivial

theorem raisesKeepingResult_raised (o : CmdOutcome) (s : State) : (Run.raised o s : Run α).RaisesKeepingResult s :=
  sameResult_refl s

/-- A step that raises on a condition and goes on with r otherwise. -/
theorem Run.RaisesKeepingResult.raise_if {p : Prop} [Decidable p] {o : CmdOutcome} {t : State}
    (h : r.RaisesKeepingResult s) (ht : sameResult s t) :
    (if p then .raised o t else r : Run α).RaisesKeepingResult s := by
  split_ifs
  · exact ht
  · exact h

/-- Exchanges write no result, and a final write comes only where the run returns. -/
theorem Run.ExchangesThen.raisesKeepingResult {r : Run Unit} {w : State → State → Prop} (h : r.ExchangesThen s w) :
    r.RaisesKeepingResult s :=
  h.mono (fun _ _ _ => trivial) fun _ _ ⟨_, _, ht⟩ => ht.sameResult

theorem Run.Exchanges.raisesKeepingResult (h : r.Exchanges s) : r.RaisesKeepingResult s :=
  h.mono (fun _ _ _ => trivial) fun _ _ ⟨_, _, ht⟩ => ht.sameResult

/-- What follows exchanges finds RESULT as it was before them. -/
theorem Run.Exchanges.andThen_raisesKeepingResult {β : Type} {k : α → State → Run β} (h : r.Exchanges s)
    (hk : ∀ a t, (k a t).RaisesKeepingResult t) : (r.andThen k).RaisesKeepingResult s := by
  cases r with
  | ok a t =>
    obtain ⟨es, ht⟩ := h
    exact (hk a t).mono (fun _ _ _ => trivial) fun _ _ hu => ht.sameResult.trans hu
  | raised o t => exact h.raisesKeepingResult
  | stuck f => trivial

/-- Exchanges, then a return with any last write. -/
theorem Run.Exchanges.andThen_return {w : α → State → State} (h : r.Exchanges s) :
    (r.andThen fun a t => .ok () (w a t)).RaisesKeepingResult s :=
  h.andThen_raisesKeepingResult fun a t => raisesKeepingResult_ok () t (w a t)

/-- A failure-path write of another register. -/
theorem Run.RaisesKeepingResult.onRaise {w : State → State} (h : r.RaisesKeepingResult s)
    (hw : ∀ t, sameResult t (w t)) : (r.onRaise w).RaisesKeepingResult s :=
  Run.Meets.onRaise h fun _ t ht => ht.trans (hw t)

/-- A gated command that does not end Ok was refused by the gate or raised by its body. -/
theorem gated_sameResult {c : Opsel} {t : State} {body : State → Run Unit} (h : gated c s body = .next t)
    (hb : (body s).RaisesKeepingResult s) (ho : t.outcome ≠ some .ok) : sameResult s t := by
  rcases gated_next h hb with ⟨_, rfl⟩ | ⟨_, ⟨u, _, rfl⟩ | ⟨o, u, hu, rfl⟩⟩
  · exact sameResult_refl s
  · exact absurd rfl ho
  · exact hu

end Rules

/-! ### The shared bodies -/

theorem requestTag_raisesKeepingResult (op : Byte) (s : State) : (requestTag op s).RaisesKeepingResult s := by
  rw [requestTag_eq]
  refine ((transact_exchanges 2 s (by simp)).andThen_raisesKeepingResult fun rx t => ?_).onRaise sameResult_refl
  exact ((checkLen_exchanges rx 2 t).andThen fun _ t _ => checkAtqa_exchanges rx t).andThen_return

theorem selectLevel_raisesKeepingResult (op0 op1 : Byte) (id : Quad) (sak : Byte) (done : SelState) (s : State) :
    (selectLevel op0 op1 id sak done s).RaisesKeepingResult s := by
  have hsend : (transact (frameWithCrc (selectPayload op0 op1 id)) 1
      (s.computeCrc (selectPayload op0 op1 id))).Exchanges (s.computeCrc (selectPayload op0 op1 id)) :=
    transact_exchanges 1 _ (by simp [selectPayload])
  refine Run.RaisesKeepingResult.onRaise ?_ sameResult_refl
  exact hsend.andThen_raisesKeepingResult fun rx t =>
    (checkLen_exchanges rx 1 t).andThen_raisesKeepingResult fun _ t => (checkSak_exchanges rx sak t).andThen_return

/-- The cascade check raises with nothing written (43_selection.md R207). -/
theorem cascade_raisesKeepingResult {s : State} {body : State → Run Unit} (hb : (body s).RaisesKeepingResult s) :
    ((checkCascade .cl1Done s).andThen fun _ s => body s).RaisesKeepingResult s := by
  unfold checkCascade
  split_ifs
  · exact raisesKeepingResult_raised _ s
  · exact hb

/-- The check of a value, then the write (46_config.md R301). -/
theorem checkedCfgSet_raisesKeepingResult (f : Field) (v max : Byte) (s : State) :
    ((checkAtMost v max s).andThen fun _ t => cfgSet f v t).RaisesKeepingResult s :=
  ((checkAtMost_exchanges v max s).andThen fun _ t _ => cfgSet_exchanges f v t).raisesKeepingResult

/-! ### The commands -/

/-- A command that does not end Ok has written no result (60_exceptions.md R341). -/
theorem exec_sameResult {i : Instr} {s t : State} (h : exec i s = .next t) (ho : t.outcome ≠ some .ok) :
    sameResult s t := by
  cases i with
  | init => exact init_sameResult h
  | info =>
    rw [← Host.Outcome.next.inj h] at ho
    exact absurd rfl ho
  | deinit =>
    exact gated_sameResult h ((raisesKeepingResult_ok _ s _).raise_if (nextRfStatus_sameResult (s.emit .rfDeinit))) ho
  | setStorage | getStorage | crc16 => exact gated_sameResult h (raisesKeepingResult_ok () s _) ho
  | crcCheck data =>
    exact gated_sameResult h ((checkCrc_exchanges data s).andThen_return.raise_if (sameResult_refl s)) ho
  | request => exact gated_sameResult h (requestTag_raisesKeepingResult _ s.deselect) ho
  | wakeUp =>
    exact gated_sameResult h (requestTag_raisesKeepingResult _ (delayMs s.params.wupaDelayMs s.deselect)) ho
  | halt =>
    have hb := (haltFrame_exchanges s.deselect).andThen fun tx t ht => transact_exchanges 1 t (haltFrame_length ht)
    refine gated_sameResult h ?_ ho
    rw [← Run.andThen_assoc]
    exact hb.andThen_return (w := fun _ t => t)
  | anticollCl1 => exact gated_sameResult h (anticollision_mayReport _ _ s).raisesKeepingResult ho
  | selectCl1 id => exact gated_sameResult h (selectLevel_raisesKeepingResult _ _ id _ _ s) ho
  | anticollCl2 =>
    exact gated_sameResult h (cascade_raisesKeepingResult (anticollision_mayReport _ _ s).raisesKeepingResult) ho
  | selectCl2 id =>
    exact gated_sameResult h (cascade_raisesKeepingResult (selectLevel_raisesKeepingResult _ _ id _ _ s)) ho
  | getVersion | readPage | readFourPages | readSerial | otpRead | readSignature =>
    exact gated_sameResult h (transactData_exchanges _ s (by simp)).andThen_return ho
  | fastRead start stop cap =>
    exact gated_sameResult h ((checkFastRead_exchanges start stop cap s).andThen_raisesKeepingResult fun _ t =>
      (transactData_exchanges _ t (by simp)).andThen_return) ho
  | writePage | otpWrite =>
    exact gated_sameResult h (writePageRaw_exchanges _ s (length_quadBytes _)).raisesKeepingResult ho
  | compWrite | setPasswordPack | setLock =>
    exact gated_sameResult h ((transactAck_exchanges s (by simp)).andThen fun _ t _ =>
      transactAck_exchanges t (by simp)).raisesKeepingResult ho
  | readCounter a | checkTearing a =>
    exact gated_sameResult h ((checkCounterAddr_exchanges a s).andThen_raisesKeepingResult fun _ t =>
      (transactData_exchanges _ t (by simp)).andThen_return) ho
  | incrementCounter a v =>
    exact gated_sameResult h ((checkCounterAddr_exchanges a s).andThen fun _ t _ =>
      transactAck_exchanges t (by simp [incrementPayload, le24])).raisesKeepingResult ho
  | authenticate pwd k0 k1 =>
    exact gated_sameResult h ((transactData_exchanges 2 s (by simp)).andThen_raisesKeepingResult fun _ t =>
      (raisesKeepingResult_ok () t _).raise_if (sameResult_refl t)) ho
  | getLock =>
    exact gated_sameResult h ((readPageRaw_exchanges _ s).andThen_raisesKeepingResult fun _ t =>
      (readPageRaw_exchanges _ t).andThen_return) ho
  | setModulation m => exact gated_sameResult h (checkedCfgSet_raisesKeepingResult .mod m 1#8 s) ho
  | setAuthLimit l => exact gated_sameResult h (checkedCfgSet_raisesKeepingResult .authlim l 7#8 s) ho
  | setProtectStart | setVctid => exact gated_sameResult h (cfgSet_exchanges _ _ s).raisesKeepingResult ho
  | setAccess which enable =>
    refine gated_sameResult h ?_ ho
    split
    · exact raisesKeepingResult_raised _ s
    · exact checkedCfgSet_raisesKeepingResult _ enable 1#8 s
  | getAccess which =>
    refine gated_sameResult h ?_ ho
    split
    · exact raisesKeepingResult_raised _ s
    · exact (getField_mayReport _ s).raisesKeepingResult
  | getModulation | getProtectStart | getAuthLimit | getVctid =>
    exact gated_sameResult h (getField_mayReport _ s).raisesKeepingResult ho

/-- A waiting block writes nothing, an illegal descriptor no result (30_encoding.md R85), and accepting a descriptor leaves
RESULT to its command. -/
theorem step_sameResult {s t : State} (h : step s = .next t) (ho : t.outcome ≠ some .ok) : sameResult s t := by
  unfold step at h
  split at h
  · rw [← Host.Outcome.next.inj h]
    exact sameResult_refl s
  next c rest _ =>
    have haccepted : sameResult s (s.accepted rest) := sameResult_refl s
    split at h
    · exact haccepted.trans (exec_sameResult h ho)
    · rw [← Host.Outcome.next.inj h]
      exact haccepted

/-- Settles O47: no command raises after its write of RESULT, and a step adds no write of its own. -/
theorem resultKeptUnlessOk : Obligations.ResultKeptUnlessOk :=
  ⟨fun _ _ _ => exec_sameResult, fun _ _ => step_sameResult⟩

end Sys2Proof.Machine
end

section
/-! PROOFS. Descriptors (30_encoding.md R80 to R86): the OPSEL map and its inverse, the operand formats taken apart, and what
a step makes of a legal and of an illegal descriptor. -/

namespace Sys2Proof

open Sys2Proof.Machine (loByte hiByte le16 le32 word16OfLe word32OfLe quadBytes reservedOpselValue)

/-! ### The OPSEL map -/

theorem opselOf_opselCode (o : Opsel) : opselOf (opselCode o) = some o := by
  cases o <;> rfl

/-- The map is read backwards by search, so what is found has the value searched for (30_encoding.md R82). -/
theorem opselCode_of_opselOf {b : Byte} {o : Opsel} (h : opselOf b = some o) : opselCode o = b := by
  simpa using List.find?_some h

/-- No command has an OPSEL value that R85 reserves. -/
theorem opselCode_not_reserved (o : Opsel) : ¬ reservedOpselValue (opselCode o) := by
  unfold reservedOpselValue
  cases o <;> decide

theorem opselOf_of_reserved {b : Byte} (h : reservedOpselValue b) : opselOf b = none := by
  cases ho : opselOf b with
  | none => rfl
  | some o => exact absurd (opselCode_of_opselOf ho ▸ h) (opselCode_not_reserved o)

/-! ### Operands of several bytes, low byte first (30_encoding.md R83) -/

theorem word16OfLe_le16 (w : Word16) : word16OfLe (loByte w) (hiByte w) = w := by
  ext i hi
  simp only [word16OfLe, loByte, hiByte, BitVec.getElem_or, BitVec.getElem_setWidth, BitVec.getElem_shiftLeft,
    BitVec.getLsbD_setWidth, BitVec.getLsbD_ushiftRight]
  grind

theorem le16_word16OfLe (c0 c1 : Byte) : le16 (word16OfLe c0 c1) = [c0, c1] := by
  have hlo : loByte (word16OfLe c0 c1) = c0 := by
    ext i hi
    simp [word16OfLe, loByte]
  have hhi : hiByte (word16OfLe c0 c1) = c1 := by
    ext i hi
    simp [word16OfLe, hiByte]
    grind
  rw [le16, hlo, hhi]

theorem word32OfLe_le32 (v : BitVec 32) :
    word32OfLe (v.setWidth 8) ((v >>> 8).setWidth 8) ((v >>> 16).setWidth 8) ((v >>> 24).setWidth 8) = v := by
  ext i hi
  simp only [word32OfLe, BitVec.getElem_or, BitVec.getElem_setWidth, BitVec.getElem_shiftLeft,
    BitVec.getLsbD_setWidth, BitVec.getLsbD_ushiftRight]
  grind

theorem le32_word32OfLe (c0 c1 c2 c3 : Byte) : le32 (word32OfLe c0 c1 c2 c3) = [c0, c1, c2, c3] := by
  simp only [le32, List.cons.injEq, and_true]
  refine ⟨?_, ?_, ?_, ?_⟩ <;> ext i hi
  · simp [word32OfLe]
  all_goals
    simp [word32OfLe]
    grind

/-! ### The formats -/

section Formats

variable {i : Instr} {c : List Byte}

theorem operandsNone_eq_some {x : Instr} (h : operandsNone x c = some i) : c = [] ∧ i = x := by
  unfold operandsNone at h
  split at h <;> cases h
  exact ⟨rfl, rfl⟩

theorem operandsB_eq_some {mk : Byte → Instr} (h : operandsB mk c = some i) : ∃ b, c = [b] ∧ i = mk b := by
  unfold operandsB at h
  split at h <;> cases h
  exact ⟨_, rfl, rfl⟩

theorem operandsBB_eq_some {mk : Byte → Byte → Instr} (h : operandsBB mk c = some i) :
    ∃ b1 b2, c = [b1, b2] ∧ i = mk b1 b2 := by
  unfold operandsBB at h
  split at h <;> cases h
  exact ⟨_, _, rfl, rfl⟩

theorem operands4_eq_some {mk : Quad → Instr} (h : operands4 mk c = some i) : ∃ q, c = quadBytes q ∧ i = mk q := by
  unfold operands4 at h
  split at h <;> cases h
  exact ⟨⟨_, _, _, _⟩, rfl, rfl⟩

theorem operandsP4_eq_some {mk : Byte → Quad → Instr} (h : operandsP4 mk c = some i) :
    ∃ p q, c = p :: quadBytes q ∧ i = mk p q := by
  unfold operandsP4 at h
  split at h <;> cases h
  exact ⟨_, ⟨_, _, _, _⟩, rfl, rfl⟩

theorem operandsFR_eq_some {mk : Byte → Byte → Word16 → Instr} (h : operandsFR mk c = some i) :
    ∃ a b w, c = [a, b] ++ le16 w ∧ i = mk a b w := by
  unfold operandsFR at h
  split at h <;> cases h
  exact ⟨_, _, _, by rw [le16_word16OfLe]; rfl, rfl⟩

theorem operandsCNT_eq_some {mk : Byte → BitVec 32 → Instr} (h : operandsCNT mk c = some i) :
    ∃ a v, c = a :: le32 v ∧ i = mk a v := by
  unfold operandsCNT at h
  split at h <;> cases h
  exact ⟨_, _, by rw [le32_word32OfLe], rfl⟩

theorem operandsPW_eq_some {mk : Quad → Byte → Byte → Instr} (h : operandsPW mk c = some i) :
    ∃ pwd k0 k1, c = quadBytes pwd ++ [k0, k1] ∧ i = mk pwd k0 k1 := by
  unfold operandsPW at h
  split at h <;> cases h
  exact ⟨⟨_, _, _, _⟩, _, _, rfl, rfl⟩

theorem operandsLK_eq_some {mk : Byte → Byte → Byte → Byte → Byte → Instr} (h : operandsLK mk c = some i) :
    ∃ l0 l1 l2 l3 l4, c = [l0, l1, l2, l3, l4] ∧ i = mk l0 l1 l2 l3 l4 := by
  unfold operandsLK at h
  split at h <;> cases h
  exact ⟨_, _, _, _, _, rfl, rfl⟩

/-- The count byte is the number of bytes that follow it (30_encoding.md R84). -/
theorem operandsCRC_eq_some {mk : List Byte → Instr} (h : operandsCRC mk c = some i) :
    ∃ data, data.length ≤ 255 ∧ c = BitVec.ofNat 8 data.length :: data ∧ i = mk data := by
  unfold operandsCRC at h
  split at h
  · cases h
  · rename_i n data
    split at h <;> cases h
    rename_i hn
    exact ⟨data, by omega, by rw [hn, BitVec.ofNat_toNat, BitVec.setWidth_eq], rfl⟩

theorem operandsCRC_count (mk : List Byte → Instr) {data : List Byte} (h : data.length ≤ 255) :
    operandsCRC mk (BitVec.ofNat 8 data.length :: data) = some (mk data) := by
  rw [operandsCRC, if_pos (Machine.toNat_lengthByte h).symm]

end Formats

/-! ### Decoding and encoding -/

/-- A well-formed command's operand bytes read back. -/
theorem operandsOf_operandBytes {i : Instr} (h : i.wf = true) : operandsOf i.opsel (operandBytes i) = some i := by
  cases i with
  | crc16 data => exact operandsCRC_count .crc16 (of_decide_eq_true h)
  | crcCheck data => exact operandsCRC_count .crcCheck (of_decide_eq_true h)
  | fastRead start stop cap => exact congrArg (fun w => some (Instr.fastRead start stop w)) (word16OfLe_le16 cap)
  | incrementCounter a v => exact congrArg (fun w => some (Instr.incrementCounter a w)) (word32OfLe_le32 v)
  | _ => rfl

/-- Operand bytes that a format accepts are those of the command it reads. -/
theorem operandBytes_of_operandsOf {o : Opsel} {c : List Byte} {i : Instr} (h : operandsOf o c = some i) :
    i.wf = true ∧ i.opsel = o ∧ operandBytes i = c := by
  cases o with
  | init | deinit | info | getStorage | request | wakeUp | halt | anticollCl1 | anticollCl2 | getVersion | readSerial
  | otpRead | readSignature | getLock | getModulation | getProtectStart | getAuthLimit | getVctid =>
    obtain ⟨rfl, rfl⟩ := operandsNone_eq_some h
    exact ⟨rfl, rfl, rfl⟩
  | setStorage | readPage | readFourPages | readCounter | checkTearing | setModulation | setProtectStart | getAccess
  | setAuthLimit | setVctid =>
    obtain ⟨b, rfl, rfl⟩ := operandsB_eq_some h
    exact ⟨rfl, rfl, rfl⟩
  | setAccess =>
    obtain ⟨b1, b2, rfl, rfl⟩ := operandsBB_eq_some h
    exact ⟨rfl, rfl, rfl⟩
  | selectCl1 | selectCl2 | otpWrite =>
    obtain ⟨q, rfl, rfl⟩ := operands4_eq_some h
    exact ⟨rfl, rfl, rfl⟩
  | writePage | compWrite =>
    obtain ⟨p, q, rfl, rfl⟩ := operandsP4_eq_some h
    exact ⟨rfl, rfl, rfl⟩
  | fastRead =>
    obtain ⟨a, b, w, rfl, rfl⟩ := operandsFR_eq_some h
    exact ⟨rfl, rfl, rfl⟩
  | incrementCounter =>
    obtain ⟨a, v, rfl, rfl⟩ := operandsCNT_eq_some h
    exact ⟨rfl, rfl, rfl⟩
  | authenticate | setPasswordPack =>
    obtain ⟨pwd, k0, k1, rfl, rfl⟩ := operandsPW_eq_some h
    exact ⟨rfl, rfl, rfl⟩
  | setLock =>
    obtain ⟨l0, l1, l2, l3, l4, rfl, rfl⟩ := operandsLK_eq_some h
    exact ⟨rfl, rfl, rfl⟩
  | crc16 | crcCheck =>
    obtain ⟨data, hn, rfl, rfl⟩ := operandsCRC_eq_some h
    exact ⟨decide_eq_true hn, rfl, rfl⟩

/-- With a legal OPSEL and operands of its format, a descriptor is legal (30_encoding.md R84). -/
theorem decode_of_operands {o : Opsel} {operands : List Byte} {i : Instr} (h : operandsOf o operands = some i) :
    decode (opselCode o :: operands) = .ok i := by
  simp only [decode, opselOf_opselCode, h]

theorem decode_of_no_operands {o : Opsel} {operands : List Byte} (h : operandsOf o operands = none) :
    decode (opselCode o :: operands) = .error (.wrongLength o (operands.length + 1)) := by
  simp only [decode, opselOf_opselCode, h]

theorem decode_encode {i : Instr} (h : i.wf = true) : decode (encode i) = .ok i :=
  decode_of_operands (operandsOf_operandBytes h)

theorem encode_of_decode {c : List Byte} {i : Instr} (h : decode c = .ok i) : i.wf = true ∧ encode i = c := by
  cases c with
  | nil => cases h
  | cons c0 operands =>
    cases ho : opselOf c0 with
    | none =>
      simp only [decode, ho] at h
      cases h
    | some o =>
      obtain rfl := opselCode_of_opselOf ho
      cases hi : operandsOf o operands with
      | none => cases (decode_of_no_operands hi).symm.trans h
      | some j =>
        cases (decode_of_operands hi).symm.trans h
        obtain ⟨hwf, rfl, hbytes⟩ := operandBytes_of_operandsOf hi
        exact ⟨hwf, by rw [encode, hbytes]⟩

/-- Settles O1: the OPSEL map reads its own values back, and each format its own operand bytes. -/
theorem encodeThenDecodeIsIdentity : Obligations.EncodeThenDecodeIsIdentity :=
  fun _ => decode_encode

/-- Settles O2: the OPSEL found has the first byte as its value, and each format accepts only the bytes it would write. -/
theorem decodeThenEncodeIsIdentity : Obligations.DecodeThenEncodeIsIdentity :=
  fun _ _ => encode_of_decode

/-- Settles O4, by decoding each descriptor. -/
theorem writtenOutDescriptorsDecode : Obligations.WrittenOutDescriptorsDecode :=
  ⟨rfl, rfl, rfl, rfl, rfl, rfl, rfl⟩

/-! ### Descriptors of a wrong length -/

/-- Operands that a format accepts have its length (30_encoding.md R84). -/
theorem length_of_operandsOf {o : Opsel} {operands : List Byte} {i : Instr} (h : operandsOf o operands = some i) :
    operands.length + 1 = formatLength (operands.headD 0x00#8) (formatOf o) := by
  obtain ⟨hwf, rfl, rfl⟩ := operandBytes_of_operandsOf h
  cases i with
  | crc16 data => exact Laws.EncodeShape.length_of_count (of_decide_eq_true hwf)
  | crcCheck data => exact Laws.EncodeShape.length_of_count (of_decide_eq_true hwf)
  | _ => rfl

theorem decode_wrongLength {o : Opsel} {operands : List Byte}
    (h : operands.length + 1 ≠ formatLength (operands.headD 0x00#8) (formatOf o)) :
    decode (opselCode o :: operands) = .error (.wrongLength o (operands.length + 1)) := by
  cases hi : operandsOf o operands with
  | none => exact decode_of_no_operands hi
  | some i => exact absurd (length_of_operandsOf hi) h

theorem decode_reserved {b : Byte} (h : reservedOpselValue b) (operands : List Byte) :
    decode (b :: operands) = .error (.reservedOpsel b) := by
  simp only [decode, opselOf_of_reserved h]

end Sys2Proof

namespace Sys2Proof.Machine

/-! ### The step -/

section Step

variable {s : State} {c : List Byte} {rest : List (List Byte)}

theorem step_idle (h : s.commands = []) : step s = .next s := by
  simp only [step, h]

theorem step_legal {i : Instr} (hc : s.commands = c :: rest) (hd : decode c = .ok i) :
    step s = exec i (s.accepted rest) := by
  simp only [step, hc, hd]

theorem step_illegal {e : DecodeError} (hc : s.commands = c :: rest) (hd : decode c = .error e) :
    step s = .next ((s.accepted rest).ended (commandOfError e) .illegalCommand) := by
  simp only [step, hc, hd, endIllegal]

end Step

/-- Settles O5: both clauses are the step's own cases. -/
theorem stepRunsTheDecodedCommand : Obligations.StepRunsTheDecodedCommand :=
  fun _ => ⟨fun _ _ _ hc hd _ => step_legal hc hd, step_idle⟩

/-- Settles O3: neither kind of descriptor decodes, and the error names the entry of STATUS_CODE. -/
theorem illegalDescriptorEndsIllegalCommand : Obligations.IllegalDescriptorEndsIllegalCommand := by
  refine fun s rest operands => ⟨fun b hb hc => ?_, fun o hlen hc => ?_, fun hno k => ?_⟩
  · exact step_illegal hc (decode_reserved hb operands)
  · exact step_illegal hc (decode_wrongLength hlen)
  · rw [State.ended_status, statusCode_of_no_overrides (p := (s.accepted rest).params) hno]
    simp [defaultStatusCode, commonStatusCode]

/-! ### CRC16 and CRC_CHECK -/

/-- A descriptor of format H_CRC runs its command exactly when it holds as many bytes as its count says (40_crc.md R126,
R127). -/
theorem step_countedBytes {s : State} {o : Opsel} {mk : List Byte → Instr} {n : Byte} {data : List Byte}
    {rest : List (List Byte)} (ho : ∀ c, operandsOf o c = operandsCRC mk c)
    (hc : s.commands = (opselCode o :: n :: data) :: rest) :
    step s = if data.length = n.toNat then exec (mk data) (s.accepted rest)
      else .next ((s.accepted rest).ended (some o) .illegalCommand) := by
  split_ifs with hlen
  · exact step_legal hc (decode_of_operands (by rw [ho, operandsCRC, if_pos hlen]))
  · exact step_illegal hc (decode_of_no_operands (by rw [ho, operandsCRC, if_neg hlen]))

/-- Settles O9: a frame's own CRC passes, and two other bytes are unequal to the CRC recomputed. -/
theorem framesWithCrcPassCheckCrc : Obligations.FramesWithCrcPassCheckCrc := by
  refine fun p s => ⟨⟨s.computeCrc p, withCrc_eq p s, checkCrc_self p _⟩, fun c0 c1 hne => ?_⟩
  simp [checkCrc, hne]

/-- Settles O10: the gate, the CRC of the operand, and the count of its descriptor. -/
theorem crc16Meaning : Obligations.Crc16Meaning :=
  fun _ _ => ⟨gated_of_not_init _ _, gated_of_init _ _, fun _ _ => step_countedBytes (o := .crc16) fun _ => rfl,
    by decide, by decide⟩

/-- CRC_CHECK of at least two bytes compares the last two with the CRC of the rest (40_crc.md R127). -/
theorem execCrcCheck_append {s : State} (p : List Byte) (c0 c1 : Byte) (hi : s.initFlag = true) :
    exec (.crcCheck (p ++ [c0, c1])) s =
      if [c0, c1] = le16 (crc16 p) then .next (((s.computeCrc p).setResult [c0, c1]).ended (some .crcCheck) .ok)
      else .next ((s.computeCrc p).ended (some .crcCheck) .checksumError) := by
  have hlen : ¬ (p ++ [c0, c1]).length < 2 := by simp
  simp only [exec, execCrcCheck, gated_of_init _ _ hi, if_neg hlen]
  split_ifs with hcrc
  · simp [checkCrc, hcrc]
  · simp [checkCrc, hcrc]

/-- Settles O11: the gate, the length, the comparison, and the count of its descriptor. -/
theorem crcCheckMeaning : Obligations.CrcCheckMeaning := by
  refine fun s data => ⟨gated_of_not_init _ _, fun hi hlen => ?_, fun p c0 c1 hi hdata => ?_,
    fun _ _ => step_countedBytes (o := .crcCheck) fun _ => rfl⟩
  · simp only [exec, execCrcCheck, gated_of_init _ _ hi, if_pos hlen, finish_raised]
  · have hpair : [c0, c1] = le16 (crc16 p) ↔ c0 = (crc16 p).setWidth 8 ∧ c1 = (crc16 p >>> 8).setWidth 8 := by
      simp [le16, loByte, hiByte]
    rw [hdata, execCrcCheck_append p c0 c1 hi]
    simp only [hpair]

end Sys2Proof.Machine
end

section
/-! PROOFS. What a command can do to the registers outside the session, to the transceiver's answers and to the trace, said once
for every command: it sends at most two frames, each of the wire command set, and stops only where an answer does not come.
What every step keeps of the whole machine follows. -/

namespace Sys2Proof.Machine

/-! ### Events and answers -/

/-- The events are at most n exchanges of frames of the wire command set, and nothing else (30_encoding.md R96). -/
structure Frames (p : Params) (n : Nat) (es : List Event) : Prop where
  count_le : exchangeCount es ≤ n
  known : ∀ e ∈ es, ∃ tx cap, e = .exchange tx cap ∧ WireFrame p tx

theorem exchangeCount_append (es fs : List Event) : exchangeCount (es ++ fs) = exchangeCount es + exchangeCount fs := by
  simp [exchangeCount]

theorem frames_nil (p : Params) (n : Nat) : Frames p n [] := ⟨Nat.zero_le n, by simp⟩

theorem frames_exchange {p : Params} {tx : List Byte} (cap : Nat) (h : WireFrame p tx) :
    Frames p 1 [.exchange tx cap] :=
  ⟨Nat.le_refl 1, by simpa using h⟩

theorem Frames.append {p : Params} {n m : Nat} {es fs : List Event} (h : Frames p n es) (h' : Frames p m fs) :
    Frames p (n + m) (es ++ fs) where
  count_le := by
    rw [exchangeCount_append]
    exact Nat.add_le_add h.count_le h'.count_le
  known e he := (List.mem_append.mp he).elim (h.known e) (h'.known e)

theorem Frames.mono {p : Params} {n m : Nat} {es : List Event} (h : Frames p n es) (hn : n ≤ m) : Frames p m es :=
  ⟨Nat.le_trans h.count_le hn, h.known⟩

/-- The next n listed answers return (60_exceptions.md R352). -/
def State.answersReturn (s : State) (n : Nat) : Prop := ∀ k < n, ∃ st rx, s.exchangeAnswers[k]? = some (.returns st rx)

/-! ### What a command leaves outside the session -/

/-- From s to t the events es were made, each exchange used up one listed answer, and the lengths stay within their buffers; the
configuration, the input and the pending descriptors are as they were. -/
structure Reaches (s t : State) (es : List Event) : Prop where
  trace : t.trace = s.trace ++ es
  answers : t.exchangeAnswers = s.exchangeAnswers.drop (exchangeCount es)
  params : t.params = s.params
  collabPresent : t.collabPresent = s.collabPresent
  commands : t.commands = s.commands
  txLen : t.txLen = s.txLen ∨ t.txLen.toNat ≤ 18
  rxLen : t.rxLen = s.rxLen ∨ t.rxLen.toNat ≤ s.params.rxLenMax.toNat
  resultLen : t.resultLen = s.resultLen ∨ t.resultLen.toNat ≤ 60

theorem Reaches.refl (s : State) : Reaches s s [] :=
  ⟨(List.append_nil _).symm, rfl, rfl, rfl, rfl, .inl rfl, .inl rfl, .inl rfl⟩

theorem Reaches.trans {s t u : State} {es fs : List Event} (h : Reaches s t es) (h' : Reaches t u fs) :
    Reaches s u (es ++ fs) where
  trace := by rw [h'.trace, h.trace, List.append_assoc]
  answers := by rw [h'.answers, h.answers, List.drop_drop, exchangeCount_append]
  params := h'.params.trans h.params
  collabPresent := h'.collabPresent.trans h.collabPresent
  commands := h'.commands.trans h.commands
  txLen := h'.txLen.elim (fun ht => ht ▸ h.txLen) .inr
  rxLen := h'.rxLen.elim (fun ht => ht ▸ h.rxLen) fun ht => .inr (h.params ▸ ht)
  resultLen := h'.resultLen.elim (fun ht => ht ▸ h.resultLen) .inr

theorem Reaches.trans_nil {s t u : State} {es : List Event} (h : Reaches s t es) (h' : Reaches t u []) :
    Reaches s u es :=
  List.append_nil es ▸ h.trans h'

/-- A write of session registers, of CRC_REG or of the outcome. -/
theorem reaches_session (s : State) (flag : Bool) (dtype : TagType) (endPage : Byte) (sel : SelState) (crc : Word16)
    (status : Byte) (o : Option CmdOutcome) :
    Reaches s { s with
      initFlag := flag, dtype := dtype, endPage := endPage, selState := sel, crcReg := crc, status := status,
      outcome := o } [] :=
  ⟨(List.append_nil _).symm, rfl, rfl, rfl, rfl, .inl rfl, .inl rfl, .inl rfl⟩

theorem reaches_ended (s : State) (c : Option Opsel) (o : CmdOutcome) : Reaches s (s.ended c o) [] :=
  reaches_session s _ _ _ _ _ _ _

theorem reaches_setResult (s : State) {bytes : List Byte} (h : bytes.length ≤ 60) :
    Reaches s (s.setResult bytes) [] :=
  ⟨(List.append_nil _).symm, rfl, rfl, rfl, rfl, .inl rfl, .inl rfl,
    .inr ((toNat_lengthByte (Nat.le_trans h (by decide))).trans_le h)⟩

/-- An event other than an exchange takes no answer. -/
theorem reaches_emit (s : State) {e : Event} (h : exchangeCount [e] = 0) : Reaches s (s.emit e) [e] :=
  ⟨rfl, by rw [h]; rfl, rfl, rfl, rfl, .inl rfl, .inl rfl, .inl rfl⟩

theorem reaches_nextRfStatus (s : State) : Reaches s (nextRfStatus s).2 [] := by
  unfold nextRfStatus
  split <;> exact ⟨(List.append_nil _).symm, rfl, rfl, rfl, rfl, .inl rfl, .inl rfl, .inl rfl⟩

/-- An exchange of a frame that fits, its answer taken from the list or free (10_state.md R37, R38). -/
theorem reaches_exchanged {s : State} {tx rx : List Byte} (cap n : Nat) (h : tx.length ≤ 18)
    (hr : rx.length ≤ s.params.rxLenMax.toNat) :
    Reaches s { s.exchanged tx cap rx s.exchangeAnswers.tail with freeCount := n } [.exchange tx cap] :=
  ⟨rfl, List.drop_one.symm, rfl, rfl, rfl,
    .inr ((toNat_lengthByte (Nat.le_trans h (by decide))).trans_le h),
    .inr ((toNat_lengthByte (Nat.le_trans hr (rxLenMax_le _))).trans_le hr), .inl rfl⟩

theorem Reaches.answersReturn {s t : State} {p : Params} {n m : Nat} {es : List Event} (h : Reaches s t es)
    (hes : Frames p n es) (ha : s.answersReturn (n + m)) : t.answersReturn m := by
  intro k hk
  have hcount := hes.count_le
  rw [h.answers, List.getElem?_drop]
  exact ha _ (by omega)

/-! ### Runs that send frames -/

/-- From s the run sends at most n frames, each of the wire command set, and it stops only where one of the next n answers is
not a listed one that returns. -/
def Run.Sends {α : Type} (r : Run α) (s : State) (n : Nat) : Prop :=
  match r with
  | .ok _ t => ∃ es, Frames s.params n es ∧ Reaches s t es
  | .raised _ t => ∃ es, Frames s.params n es ∧ Reaches s t es
  | .stuck _ => ¬ s.answersReturn n

section Rules

variable {α β : Type} {r : Run α} {s t : State} {n m : Nat}

theorem sends_ok (a : α) (h : Reaches s t []) : (Run.ok a t).Sends s 0 := ⟨[], frames_nil _ _, h⟩

theorem sends_raised (o : CmdOutcome) (s : State) : (Run.raised o s : Run α).Sends s n :=
  ⟨[], frames_nil _ n, .refl s⟩

/-- A step that raises on a condition and goes on with r otherwise. -/
theorem Run.Sends.raise_if {p : Prop} [Decidable p] {o : CmdOutcome} (h : r.Sends s n) (ht : Reaches s t []) :
    (if p then .raised o t else r : Run α).Sends s n := by
  split_ifs
  · exact ⟨[], frames_nil _ _, ht⟩
  · exact h

/-- A check that raises or goes on, with the state as it was. -/
theorem sends_check {p : Prop} [Decidable p] {o : CmdOutcome} (a : α) (s : State) :
    (if p then .raised o s else .ok a s : Run α).Sends s 0 :=
  (sends_ok a (.refl s)).raise_if (.refl s)

/-- Sequencing adds the frames of its pieces. -/
theorem Run.Sends.andThen {k : α → State → Run β} (h : r.Sends s n)
    (hk : ∀ a t, r = .ok a t → t.params = s.params → (k a t).Sends t m) : (r.andThen k).Sends s (n + m) := by
  cases r with
  | ok a t =>
    obtain ⟨es, hes, ht⟩ := h
    have hkt := hk a t rfl ht.params
    rw [Run.andThen_ok]
    cases hr : k a t with
    | ok b u | raised o u =>
      rw [hr] at hkt
      obtain ⟨fs, hfs, hu⟩ := hkt
      rw [ht.params] at hfs
      exact ⟨es ++ fs, hes.append hfs, ht.trans hu⟩
    | stuck f =>
      rw [hr] at hkt
      exact fun ha => hkt (ht.answersReturn hes ha)
  | raised o t =>
    obtain ⟨es, hes, ht⟩ := h
    exact ⟨es, hes.mono (Nat.le_add_right n m), ht⟩
  | stuck f => exact fun ha => h fun k hk => ha k (Nat.lt_of_lt_of_le hk (Nat.le_add_right n m))

/-- After a piece that sends nothing, the rest decides. -/
theorem Run.Sends.quiet_andThen {k : α → State → Run β} (h : r.Sends s 0)
    (hk : ∀ a t, r = .ok a t → t.params = s.params → (k a t).Sends t n) : (r.andThen k).Sends s n :=
  Nat.zero_add n ▸ h.andThen hk

/-- The rest sends nothing. -/
theorem Run.Sends.andThen_quiet {k : α → State → Run β} (h : r.Sends s n) (hk : ∀ a t, (k a t).Sends t 0) :
    (r.andThen k).Sends s n :=
  h.andThen (m := 0) fun a t _ _ => hk a t

/-- The rest is a final write. -/
theorem Run.Sends.andThen_return {w : α → State → State} (h : r.Sends s n)
    (hw : ∀ a t, r = .ok a t → Reaches t (w a t) []) : (r.andThen fun a t => .ok () (w a t)).Sends s n :=
  h.andThen (m := 0) fun a t hr _ => sends_ok () (hw a t hr)

/-- A failure-path write. -/
theorem Run.Sends.onRaise {w : State → State} (h : r.Sends s n) (hw : ∀ t, Reaches t (w t) []) :
    (r.onRaise w).Sends s n := by
  cases r with
  | raised o t =>
    obtain ⟨es, hes, ht⟩ := h
    exact ⟨es, hes, ht.trans_nil (hw t)⟩
  | ok a t | stuck f => exact h

end Rules

/-! ### The shared operations -/

theorem withCrc_sends (p : List Byte) (s : State) : (withCrc p s).Sends s 0 :=
  sends_ok _ (reaches_session s _ _ _ _ _ _ _)

/-- The next answer leaves the rest of the list; one that never comes was listed so or is a free one. -/
theorem nextAnswer_tail (s : State) : ∃ a n,
    nextAnswer s = (a, { s with exchangeAnswers := s.exchangeAnswers.tail, freeCount := n }) ∧
      (a = .neverReturns → ¬ s.answersReturn 1) := by
  rcases ha : s.exchangeAnswers with _ | ⟨a, rest⟩
  case nil =>
    refine ⟨Config.freeAnswer s.freeCount, s.freeCount + 1, (nextAnswer_free ha).trans ?_, fun _ hr => ?_⟩
    · rw [List.tail_nil, ← ha]
    · obtain ⟨st, rx, hk⟩ := hr 0 Nat.one_pos
      rw [ha] at hk
      cases hk
  case cons =>
    refine ⟨a, s.freeCount, nextAnswer_listed ha, fun hn hr => ?_⟩
    obtain ⟨st, rx, hk⟩ := hr 0 Nat.one_pos
    rw [ha, hn] at hk
    cases hk

/-- An exchange sends one frame, and stops only where its answer never comes (60_exceptions.md R352). -/
theorem exchange_sends {tx : List Byte} (cap : Nat) {s : State} (h : tx.length ≤ 18) (hw : WireFrame s.params tx) :
    (exchange tx cap s).Sends s 1 := by
  obtain ⟨a, n, ha, hstop⟩ := nextAnswer_tail ((s.loadFrame tx).emit (.exchange tx cap))
  rw [exchange_eq cap s h, ha]
  cases a with
  | returns st bytes =>
    exact ⟨_, frames_exchange cap hw, reaches_exchanged cap n h (length_deliverable s.params bytes)⟩
  | neverReturns => exact hstop rfl

theorem transact_sends {tx : List Byte} (cap : Nat) {s : State} (h : tx.length ≤ 18) (hw : WireFrame s.params tx) :
    (transact tx cap s).Sends s 1 :=
  (exchange_sends cap h hw).andThen_quiet fun _ t => sends_check _ t

theorem checkLen_sends (rx : List Byte) (n : Nat) (s : State) : (checkLen rx n s).Sends s 0 := sends_check () s

theorem checkCrc_sends (rx : List Byte) (s : State) : (checkCrc rx s).Sends s 0 :=
  (sends_ok () (reaches_session s _ _ _ _ _ _ _)).raise_if (reaches_session s _ _ _ _ _ _ _)

theorem transactData_sends {p : List Byte} (n : Nat) {s : State} (h : p.length ≤ 16)
    (hw : WireFrame s.params (frameWithCrc p)) : (transactData p n s).Sends s 1 := by
  refine (withCrc_sends p s).quiet_andThen fun tx t ht _ => ?_
  cases ht
  exact (transact_sends (s := s.computeCrc p) _ (by simpa using h) hw).andThen_quiet fun rx t =>
    (checkLen_sends rx _ t).andThen_quiet fun _ t => (checkCrc_sends rx t).andThen_quiet fun _ t => sends_ok _ (.refl t)

theorem transactAck_sends {p : List Byte} {s : State} (h : p.length ≤ 16)
    (hw : WireFrame s.params (frameWithCrc p)) : (transactAck p s).Sends s 1 := by
  refine (withCrc_sends p s).quiet_andThen fun tx t ht _ => ?_
  cases ht
  exact (transact_sends (s := s.computeCrc p) _ (by simpa using h) hw).andThen_quiet fun rx t =>
    (checkLen_sends rx 1 t).andThen_quiet fun _ t => sends_check () t

/-- A data exchange that goes on gives as many bytes as it asked for (41_frame_codec.md R144). -/
theorem length_of_transactData {p d : List Byte} {n : Nat} {s t : State} (h : p.length ≤ 16)
    (hr : transactData p n s = .ok d t) : d.length = n := by
  have hm := transactData_cases n s h
  rw [hr] at hm
  exact hm.2

/-- The commands that report what they take from one data exchange (41_frame_codec.md R156). -/
theorem readData_sends {p : List Byte} {n : Nat} {f : List Byte → List Byte} {s : State} (h : p.length ≤ 16)
    (hw : WireFrame s.params (frameWithCrc p)) (hf : ∀ d, d.length = n → (f d).length ≤ 60) :
    ((transactData p n s).andThen fun d t => .ok () (t.setResult (f d))).Sends s 1 :=
  (transactData_sends n h hw).andThen_return fun d t hr => reaches_setResult t (hf d (length_of_transactData h hr))

theorem readPageRaw_sends (p : Byte) (s : State) : (readPageRaw p s).Sends s 1 :=
  transactData_sends _ (by simp) (.read p)

/-- The commands that report what they take from one page read (41_frame_codec.md R150). -/
theorem readPage_sends {f : List Byte → List Byte} (p : Byte) (s : State)
    (hf : ∀ d, d.length = 16 → (f d).length ≤ 60) :
    ((readPageRaw p s).andThen fun d t => .ok () (t.setResult (f d))).Sends s 1 :=
  readData_sends (by simp) (.read p) hf

theorem writePageRaw_sends (p : Byte) (d : Quad) (s : State) : (writePageRaw p (quadBytes d) s).Sends s 1 :=
  transactAck_sends (by simp) (.write p d)

/-- CfgSet sends a READ, then a WRITE of four bytes (46_config.md R301). -/
theorem cfgSet_sends (f : Field) (v : Byte) (s : State) : (cfgSet f v s).Sends s 2 := by
  refine (readPageRaw_sends _ s).andThen (m := 1) fun d t hr _ => ?_
  have hlen : (setFieldByte (cfgFieldOf t.params f) v (d.take pageBytes)).length = 4 := by
    simp [pageBytes, readDataBytes, length_of_transactData (by simp) hr]
  obtain ⟨b0, b1, b2, b3, hb⟩ := List.length_eq_four.mp hlen
  rw [hb]
  exact writePageRaw_sends _ ⟨b0, b1, b2, b3⟩ t

theorem checkedCfgSet_sends (f : Field) (v max : Byte) (s : State) :
    ((checkAtMost v max s).andThen fun _ t => cfgSet f v t).Sends s 2 :=
  (sends_check () s).quiet_andThen fun _ t _ _ => cfgSet_sends f v t

theorem getField_sends (f : Field) (s : State) : (getField f s).Sends s 1 :=
  ((readPageRaw_sends _ s).andThen_quiet fun _ t => sends_ok _ (.refl t)).andThen_return fun _ t _ =>
    reaches_setResult t (by simp)

/-- The range and buffer checks let at most 15 pages pass (44_memory_ops.md R233). -/
theorem checkFastRead_ok {start stop : Byte} {cap : Word16} {s t : State}
    (h : checkFastRead start stop cap s = .ok () t) : pageCount start stop ≤ 15 := by
  unfold checkFastRead at h
  split_ifs at h with hrange hpages
  exact Nat.not_lt.mp hpages

theorem checkFastRead_sends (start stop : Byte) (cap : Word16) (s : State) :
    (checkFastRead start stop cap s).Sends s 0 :=
  (((sends_ok () (.refl s)).raise_if (.refl s)).raise_if (.refl s)).raise_if (.refl s)

theorem requestTag_sends {op : Byte} {s : State} (hw : WireFrame s.params [op]) : (requestTag op s).Sends s 1 := by
  have hchecks : ((transact [op] 2 s).andThen fun rx t =>
      (checkLen rx 2 t).andThen fun _ u => checkAtqa rx u).Sends s 1 :=
    (transact_sends 2 (by simp) hw).andThen_quiet fun rx t =>
      (checkLen_sends rx 2 t).andThen_quiet fun _ u => sends_check () u
  exact (hchecks.onRaise fun t => reaches_session t _ _ _ _ _ _ _).andThen_return fun _ t _ =>
    (reaches_session t _ .ultralight _ _ _ _ _).trans_nil (reaches_setResult _ (by simp))

theorem haltFrame_sends (s : State) : (haltFrame s).Sends s 0 := by
  unfold haltFrame
  split_ifs
  · exact withCrc_sends _ s
  · exact sends_ok _ (.refl s)

/-- The HLTA frame stands in the wire command set with its CRC or without, as HALT_APPEND_CRC says (30_encoding.md R92). -/
theorem wireFrame_haltFrame {tx : List Byte} {s t : State} (h : haltFrame s = .ok tx t) : WireFrame s.params tx := by
  simp only [haltFrame, withCrc_eq] at h
  split_ifs at h with hcrc <;> cases h
  · exact .hltaCrc hcrc
  · exact .hlta (by simpa using hcrc)

theorem anticollision_sends {op0 op1 : Byte} {s : State} (hw : WireFrame s.params [op0, op1]) :
    (anticollision op0 op1 s).Sends s 1 :=
  (transact_sends 5 (by simp) hw).andThen_quiet fun rx t =>
    (checkLen_sends rx 5 t).andThen_quiet fun _ t =>
      (sends_check () t).andThen_return fun _ t _ =>
        reaches_setResult t (Nat.le_trans (List.length_take_le 4 rx) (by decide))

/-- The SAK of a SELECT is one byte, so it fits RESULT (43_selection.md R204). -/
theorem selectLevel_sends {op0 op1 : Byte} {id : Quad} (sak : Byte) (done : SelState) {s : State}
    (hw : WireFrame s.params (frameWithCrc (selectPayload op0 op1 id))) :
    (selectLevel op0 op1 id sak done s).Sends s 1 := by
  refine Run.Sends.onRaise ?_ fun t => reaches_session t _ _ _ _ _ _ _
  refine (withCrc_sends _ s).quiet_andThen fun tx t ht _ => ?_
  cases ht
  refine (transact_sends (s := s.computeCrc _) 1 (by simp [selectPayload]) hw).andThen_quiet fun rx t => ?_
  refine (checkLen_sends rx 1 t).quiet_andThen fun _ u hr _ => ?_
  have hlen : rx.length = 1 := by
    have hm := checkLen_cases rx 1 t
    rw [hr] at hm
    exact hm.2
  exact (sends_check () u).andThen_return fun _ v _ =>
    (reaches_session v _ _ _ done _ _ _).trans_nil (reaches_setResult _ (by simp [hlen]))

/-! ### The commands -/

/-- The events of the command i: at most two exchanges, each of a frame of the wire command set, and no RF event nor delay but
its own (30_encoding.md R96, 00_scope.md R9). -/
structure KnownEvents (i : Instr) (p : Params) (es : List Event) : Prop where
  count_le : exchangeCount es ≤ 2
  known : ∀ tx cap, Event.exchange tx cap ∈ es → WireFrame p tx
  rfInit : Event.rfInit ∈ es → i = .init
  rfDeinit : Event.rfDeinit ∈ es → i = .deinit
  delayMs : ∀ n, Event.delayMs n ∈ es → i = .wakeUp ∧ n = p.wupaDelayMs

theorem knownEvents_nil (i : Instr) (p : Params) : KnownEvents i p [] :=
  ⟨Nat.zero_le 2, by simp, by simp, by simp, by simp⟩

/-- A command's own event, then its frames. -/
theorem KnownEvents.append {i : Instr} {p : Params} {pre es : List Event} (h : KnownEvents i p pre)
    (hpre : exchangeCount pre = 0) (hes : Frames p 2 es) : KnownEvents i p (pre ++ es) where
  count_le := by
    rw [exchangeCount_append, hpre, Nat.zero_add]
    exact hes.count_le
  known tx cap he := by
    rcases List.mem_append.mp he with he | he
    · exact h.known tx cap he
    · obtain ⟨_, _, ⟨rfl, rfl⟩, hw⟩ := hes.known _ he
      exact hw
  rfInit he := by
    rcases List.mem_append.mp he with he | he
    · exact h.rfInit he
    · obtain ⟨_, _, ⟨⟩, _⟩ := hes.known _ he
  rfDeinit he := by
    rcases List.mem_append.mp he with he | he
    · exact h.rfDeinit he
    · obtain ⟨_, _, ⟨⟩, _⟩ := hes.known _ he
  delayMs n he := by
    rcases List.mem_append.mp he with he | he
    · exact h.delayMs n he
    · obtain ⟨_, _, ⟨⟩, _⟩ := hes.known _ he

/-- What the command i can do from s: it completes with known events, or it stops because one of the next two answers is not a
listed one that returns. -/
def Does (i : Instr) (s : State) (r : Host.Outcome State Fault Refusal) : Prop :=
  match r with
  | .next t => ∃ es, KnownEvents i s.params es ∧ Reaches s t es
  | .fault _ => ¬ s.answersReturn 2
  | .refused _ => False

/-- A gated command that makes an event of its own, if any, and session writes, and then sends at most two frames. -/
theorem gated_does_after {i : Instr} {s u : State} {c : Opsel} {body : State → Run Unit} {pre : List Event} {n : Nat}
    (hb : (body s).Sends u n) (hn : n ≤ 2) (hu : Reaches s u pre) (hpre : KnownEvents i s.params pre)
    (hcount : exchangeCount pre = 0) : Does i s (gated c s body) := by
  cases hi : s.initFlag with
  | false =>
    rw [gated_of_not_init c body hi]
    exact ⟨[], knownEvents_nil i _, reaches_ended s _ _⟩
  | true =>
    rw [gated_of_init c body hi]
    cases hr : body s with
    | ok _ t | raised o t =>
      rw [hr] at hb
      obtain ⟨es, hes, ht⟩ := hb
      rw [hu.params] at hes
      exact ⟨pre ++ es, hpre.append hcount (hes.mono hn), (hu.trans ht).trans_nil (reaches_ended t _ _)⟩
    | stuck f =>
      rw [hr] at hb
      have hanswers : u.exchangeAnswers = s.exchangeAnswers := by rw [hu.answers, hcount, List.drop_zero]
      exact fun ha => hb fun k hk => hanswers ▸ ha k (Nat.lt_of_lt_of_le hk hn)

theorem gated_does {i : Instr} {s : State} {c : Opsel} {body : State → Run Unit} {n : Nat}
    (hb : (body s).Sends s n) (hn : n ≤ 2 := by decide) : Does i s (gated c s body) :=
  gated_does_after hb hn (.refl s) (knownEvents_nil i _) rfl

theorem reaches_deselect (s : State) : Reaches s s.deselect [] := reaches_session s _ _ _ _ _ _ _

theorem init_does (s : State) : Does .init s (exec .init s) := by
  have hevents : KnownEvents .init s.params [.rfInit] :=
    ⟨Nat.zero_le 2, by simp, fun _ => rfl, by simp, by simp⟩
  have hrf : Reaches s (rfInit s).2 [.rfInit] :=
    (reaches_emit s rfl).trans_nil (reaches_nextRfStatus _)
  simp only [exec, execInit]
  split
  next => exact ⟨[], knownEvents_nil _ _, reaches_session s _ _ _ _ _ _ _⟩
  next =>
    split_ifs
    · exact ⟨_, hevents, hrf.trans_nil (reaches_session _ _ _ _ _ _ _ _)⟩
    · exact ⟨_, hevents, hrf.trans_nil (reaches_session _ _ _ _ _ _ _ _)⟩

theorem deinit_does (s : State) : Does .deinit s (exec .deinit s) := by
  have hrf : Reaches s (rfDeinit s).2 [.rfDeinit] :=
    (reaches_emit s rfl).trans_nil (reaches_nextRfStatus _)
  refine gated_does_after (n := 0) ?_ (by decide) hrf ⟨Nat.zero_le 2, by simp, by simp, fun _ => rfl, by simp⟩ rfl
  exact (sends_ok () (reaches_session _ _ _ _ _ _ _ _)).raise_if (.refl _)

/-- WAKE_UP waits before its frame (43_selection.md R201). -/
theorem wakeUp_does (s : State) : Does .wakeUp s (exec .wakeUp s) := by
  have hdelay : Reaches s (delayMs s.params.wupaDelayMs s.deselect) [.delayMs s.params.wupaDelayMs] :=
    (reaches_deselect s).trans (reaches_emit s.deselect rfl)
  exact gated_does_after (requestTag_sends .wupa) (by decide) hdelay
    ⟨Nat.zero_le 2, by simp, by simp, by simp, by simp⟩ rfl

/-- Everything a command can do outside the session registers (00_scope.md R9, 30_encoding.md R96, 60_exceptions.md R354). -/
theorem exec_does (i : Instr) (s : State) : Does i s (exec i s) := by
  cases i with
  | init => exact init_does s
  | deinit => exact deinit_does s
  | info =>
    exact ⟨[], knownEvents_nil _ _,
      (reaches_setResult s (List.length_take_le _ _)).trans_nil (reaches_ended _ _ _)⟩
  | setStorage e => exact gated_does (sends_ok () (reaches_session s _ _ e _ _ _ _))
  | getStorage => exact gated_does (sends_ok () (reaches_setResult s (by simp)))
  | crc16 data =>
    exact gated_does (sends_ok () ((reaches_session s _ _ _ _ _ _ _).trans_nil (reaches_setResult _ (by simp))))
  | crcCheck data =>
    exact gated_does (((checkCrc_sends data s).andThen_return fun _ t _ =>
      reaches_setResult t (by simp)).raise_if (.refl s))
  | request =>
    exact gated_does_after (requestTag_sends .reqa) (by decide) (reaches_deselect s) (knownEvents_nil _ _) rfl
  | wakeUp => exact wakeUp_does s
  | halt =>
    refine gated_does_after (n := 1) ?_ (by decide) (reaches_deselect s) (knownEvents_nil _ _) rfl
    refine (haltFrame_sends s.deselect).quiet_andThen fun tx t ht hp => ?_
    exact (transact_sends 1 (haltFrame_length ht) (hp ▸ wireFrame_haltFrame ht)).andThen_return fun _ t _ => .refl t
  | anticollCl1 => exact gated_does (anticollision_sends .anticollCl1)
  | selectCl1 id => exact gated_does (selectLevel_sends _ _ (.selectCl1 id))
  | anticollCl2 => exact gated_does ((sends_check () s).quiet_andThen fun _ t _ _ => anticollision_sends .anticollCl2)
  | selectCl2 id =>
    exact gated_does ((sends_check () s).quiet_andThen fun _ t _ _ => selectLevel_sends _ _ (.selectCl2 id))
  | getVersion =>
    exact gated_does ((transactData_sends _ (by simp) .getVersion).andThen_return fun d t hr =>
      (reaches_setResult t (by simp [length_of_transactData (by simp) hr, versionBytes])).trans_nil
        (reaches_session _ _ _ _ _ _ _ _))
  | readPage p => exact gated_does (readPage_sends p s fun d hd => by simp [hd])
  | readFourPages p => exact gated_does (readPage_sends (f := id) p s fun d hd => by simp [hd])
  | fastRead start stop cap =>
    refine gated_does (n := 1) ((checkFastRead_sends start stop cap s).quiet_andThen fun _ t hr _ => ?_)
    have hpages := checkFastRead_ok hr
    exact readData_sends (f := id) (by simp) (.fastRead start stop) fun d hd => by rw [id, hd]; omega
  | writePage p d => exact gated_does (writePageRaw_sends p d s)
  | compWrite p d =>
    exact gated_does ((transactAck_sends (by simp) (.compWrite p)).andThen fun _ t _ _ =>
      transactAck_sends (by simp) (.compWriteData d))
  | readSerial => exact gated_does (readPage_sends _ s fun d hd => by simp [serialOf, hd])
  | otpRead => exact gated_does (readPage_sends _ s fun d hd => by simp [hd])
  | otpWrite d => exact gated_does (writePageRaw_sends _ d s)
  | readSignature =>
    exact gated_does (readData_sends (f := id) (by simp) .readSig fun d hd => by simp [hd, signatureBytes])
  | readCounter a =>
    exact gated_does ((sends_check () s).quiet_andThen fun _ t _ _ =>
      readData_sends (f := (· ++ [0x00#8])) (by simp) (.readCnt a) fun d hd => by simp [hd])
  | incrementCounter a v =>
    exact gated_does ((sends_check () s).quiet_andThen fun _ t _ _ =>
      transactAck_sends (by simp [incrementPayload, le24]) (.incrCnt a _ _ _))
  | checkTearing a =>
    exact gated_does ((sends_check () s).quiet_andThen fun _ t _ _ =>
      readData_sends (f := id) (by simp) (.checkTearing a) fun d hd => by simp [hd])
  | authenticate pwd k0 k1 =>
    refine gated_does (n := 1) ((transactData_sends 2 (by simp) (.pwdAuth pwd)).andThen (m := 0) fun d t hr _ => ?_)
    have hlen := length_of_transactData (by simp) hr
    exact (sends_ok () (reaches_setResult t (by simp [hlen]))).raise_if (.refl t)
  | setPasswordPack pwd k0 k1 =>
    exact gated_does ((writePageRaw_sends _ pwd s).andThen fun _ t _ _ =>
      writePageRaw_sends _ ⟨k0, k1, 0x00#8, 0x00#8⟩ t)
  | setLock l0 l1 l2 l3 l4 =>
    exact gated_does ((writePageRaw_sends _ ⟨0x00#8, 0x00#8, l0, l1⟩ s).andThen fun _ t _ _ =>
      writePageRaw_sends _ ⟨l2, l3, l4, 0x00#8⟩ t)
  | getLock =>
    exact gated_does ((readPageRaw_sends _ s).andThen fun d t _ _ =>
      readPage_sends _ t fun e he => by simp [lockBytes, he])
  | setModulation m => exact gated_does (checkedCfgSet_sends .mod m _ s)
  | setAuthLimit l => exact gated_does (checkedCfgSet_sends .authlim l _ s)
  | setProtectStart v | setVctid v => exact gated_does (cfgSet_sends _ v s)
  | setAccess which enable =>
    refine gated_does (n := 2) ?_
    split
    · exact sends_raised _ s
    · exact checkedCfgSet_sends _ enable _ s
  | getAccess which =>
    refine gated_does (n := 1) ?_
    split
    · exact sends_raised _ s
    · exact getField_sends _ s
  | getModulation | getProtectStart | getAuthLimit | getVctid => exact gated_does (getField_sends _ s)

/-! ### The step -/

/-- A step that completes waited, or it accepted a descriptor and ended as its command or as an illegal one (10_state.md
R43). -/
theorem step_next {s t : State} (h : step s = .next t) :
    (s.commands = [] ∧ t = s) ∨
    ∃ c rest, s.commands = c :: rest ∧
      ((∃ i, exec i (s.accepted rest) = .next t) ∨ ∃ k, t = (s.accepted rest).ended k .illegalCommand) := by
  rcases hc : s.commands with _ | ⟨c, rest⟩
  · rw [step_idle hc] at h
    exact .inl ⟨rfl, (Host.Outcome.next.inj h).symm⟩
  · refine .inr ⟨c, rest, rfl, ?_⟩
    cases hd : decode c with
    | ok i => exact .inl ⟨i, step_legal hc hd ▸ h⟩
    | error e =>
      rw [step_illegal hc hd] at h
      exact .inr ⟨_, (Host.Outcome.next.inj h).symm⟩

theorem exec_next {i : Instr} {s t : State} (h : exec i s = .next t) :
    ∃ es, KnownEvents i s.params es ∧ Reaches s t es := by
  have hdoes := exec_does i s
  rwa [h] at hdoes

/-- What a completed step leaves outside the session: it accepted the first descriptor, if any, and sent known frames. -/
theorem step_reaches {s t : State} (h : step s = .next t) :
    ∃ es, Reaches (s.accepted s.commands.tail) t es ∧ ∀ tx cap, Event.exchange tx cap ∈ es → WireFrame s.params tx := by
  rcases step_next h with ⟨hc, rfl⟩ | ⟨c, rest, hc, hend⟩
  · have hwait : t.accepted t.commands.tail = t := by
      rw [hc, List.tail_nil, ← hc]
      rfl
    exact ⟨[], by rw [hwait]; exact .refl t, by simp⟩
  · rw [hc, List.tail_cons]
    rcases hend with ⟨i, hi⟩ | ⟨k, rfl⟩
    · obtain ⟨es, hes, ht⟩ := exec_next hi
      exact ⟨es, ht, hes.known⟩
    · exact ⟨[], reaches_ended _ _ _, by simp⟩

/-- Settles O51: no operation writes the parameters or the input, and accepting takes the first descriptor. -/
theorem configurationIsFixed : Obligations.ConfigurationIsFixed := by
  intro s t h
  obtain ⟨es, ht, -⟩ := step_reaches h
  exact ⟨ht.params, ht.collabPresent, ht.commands⟩

/-- Settles O52: the events of every command are known ones. -/
theorem onlyKnownFramesAreSent : Obligations.OnlyKnownFramesAreSent := by
  intro i s t h
  obtain ⟨es, hes, ht⟩ := exec_next h
  exact ⟨es, ht.trace, hes.count_le, hes.known, hes.rfInit, hes.rfDeinit, hes.delayMs⟩

/-- Settles O58: a step adds to the trace only exchanges of known frames, and no step changes the opcodes they are built
from. -/
theorem stepKeepsTheTraceToKnownFrames : Obligations.StepKeepsTheTraceToKnownFrames := by
  refine ⟨fun _ _ h => absurd h List.not_mem_nil, fun s t hs h tx cap he => ?_⟩
  obtain ⟨es, ht, hknown⟩ := step_reaches h
  rw [ht.trace] at he
  rw [ht.params]
  exact (List.mem_append.mp he).elim (hs tx cap) (hknown tx cap)

/-! ### Every command ends -/

theorem exec_outcome {i : Instr} {s t : State} (h : exec i s = .next t) : ∃ o, t.outcome = some o := by
  obtain ⟨-, o, ho, -⟩ := exec_writes h
  exact ⟨o, ho⟩

/-- A command completes with an outcome, or stops where one of the next two answers is not a listed one that returns. -/
theorem exec_ends (i : Instr) (s : State) :
    (∃ t, exec i s = .next t ∧ ∃ o, t.outcome = some o) ∨
      exec i s = .fault .exchangeNeverReturns ∧ ¬ s.answersReturn 2 := by
  have hdoes := exec_does i s
  cases h : exec i s with
  | next t => exact .inl ⟨t, rfl, exec_outcome h⟩
  | fault f =>
    rw [h] at hdoes
    cases f
    exact .inr ⟨rfl, hdoes⟩
  | refused r =>
    rw [h] at hdoes
    exact hdoes.elim

theorem step_ends (s : State) :
    (∃ t, step s = .next t ∧ (s.commands ≠ [] → ∃ o, t.outcome = some o)) ∨
      step s = .fault .exchangeNeverReturns ∧ ¬ s.answersReturn 2 := by
  rcases hc : s.commands with _ | ⟨c, rest⟩
  · exact .inl ⟨s, step_idle hc, fun hne => absurd rfl hne⟩
  · cases hd : decode c with
    | ok i =>
      rw [step_legal hc hd]
      rcases exec_ends i (s.accepted rest) with ⟨t, ht, ho⟩ | hstop
      · exact .inl ⟨t, ht, fun _ => ho⟩
      · exact .inr hstop
    | error e => exact .inl ⟨_, step_illegal hc hd, fun _ => ⟨_, rfl⟩⟩

/-- Settles O45: a step ends or stops, and two answers that return are as many as a command can ask for. -/
theorem everyCommandEndsInOneOutcome : Obligations.EveryCommandEndsInOneOutcome := by
  intro s
  refine ⟨(step_ends s).imp id And.left, fun st1 rx1 st2 rx2 rest ha => ?_⟩
  rcases step_ends s with ⟨t, ht, -⟩ | ⟨-, hno⟩
  · exact ⟨t, ht⟩
  · refine absurd (fun k hk => ?_) hno
    rw [ha]
    match k, hk with
    | 0, _ => exact ⟨st1, rx1, rfl⟩
    | 1, _ => exact ⟨st2, rx2, rfl⟩

/-! ### Status codes -/

/-- By the default codes, 0 says Ok (60_exceptions.md R342). -/
theorem defaultStatusCode_eq_zero (c : Option Opsel) (o : CmdOutcome) : defaultStatusCode c o = 0x00#8 ↔ o = .ok := by
  unfold defaultStatusCode
  split_ifs with h1 h2 h3
  · simp [h1.2]
  · simp [h2.2]
  · simp [h3.2]
  · cases o <;> decide

/-- Within the outcomes of one command the default codes are distinct, but for INIT's Missing outcomes (60_exceptions.md
R342). -/
theorem defaultStatusCode_injective (c : Opsel) :
    ∀ o ∈ CmdOutcome.ok :: failures c, ∀ o' ∈ CmdOutcome.ok :: failures c,
    defaultStatusCode (some c) o = defaultStatusCode (some c) o' →
      c ≠ .init ∨ defaultStatusCode (some c) o ≠ 3#8 → o = o' := by
  cases c <;> decide

/-- A command ends with an outcome of its list, and by the default codes STATUS is that outcome's. -/
theorem exec_status {i : Instr} {s t : State} (h : exec i s = .next t) (hno : s.params.statusOverrides = []) :
    ∃ o ∈ CmdOutcome.ok :: failures i.opsel, t.outcome = some o ∧ t.status = defaultStatusCode (some i.opsel) o := by
  obtain ⟨o, ho, hout⟩ := exec_endsIn h
  obtain ⟨-, o', hout', hstatus⟩ := exec_writes h
  obtain rfl : o = o' := Option.some.inj (hout.symm.trans hout')
  exact ⟨o, ho, hout, hstatus.trans (statusCode_of_no_overrides hno _ o)⟩

theorem opsel_eq_init {i : Instr} (h : i.opsel = .init) : i = .init := by
  cases i with
  | init => rfl
  | _ => cases h

/-- Settles O49: two outcomes of one command's list with one code are the same. -/
theorem statusTellsTheOutcome : Obligations.StatusTellsTheOutcome := by
  intro i s s' t t' hno hno' h h' hstatus hinit
  obtain ⟨o, ho, hout, hcode⟩ := exec_status h hno
  obtain ⟨o', ho', hout', hcode'⟩ := exec_status h' hno'
  rw [hcode] at hinit
  rw [hcode, hcode'] at hstatus
  rw [hout, hout', defaultStatusCode_injective _ o ho o' ho' hstatus (hinit.imp (mt opsel_eq_init) id)]

/-- Settles O48, by the table and its two overrides. -/
theorem statusCodeTable : Obligations.StatusCodeTable := by
  intro p c hno
  simp +contextual [statusCode_of_no_overrides hno, defaultStatusCode, commonStatusCode]

/-- Settles O43, by evaluating the page arithmetic. -/
theorem pageNumbersOfTheKnownSizes : Obligations.PageNumbersOfTheKnownSizes := by
  unfold Obligations.PageNumbersOfTheKnownSizes
  decide

/-! ### The invariant -/

/-- Settles O54, by the power-on values. -/
theorem powerOnHasTheInvariant : Obligations.PowerOnHasTheInvariant where
  txLen_le := Nat.zero_le 18
  rxLen_le := Nat.zero_le _
  resultLen_le := Nat.zero_le 60
  no_nullHandle := by simp [State.reset]
  status_zero _ := by simp [State.reset]
  before_first _ := ⟨rfl, rfl, rfl, rfl, rfl, rfl, rfl⟩

/-- Accepting a descriptor leaves every register the invariant speaks of. -/
theorem State.Inv.accepted {s : State} (h : s.Inv) (rest : List (List Byte)) : (s.accepted rest).Inv :=
  ⟨h.txLen_le, h.rxLen_le, h.resultLen_le, h.no_nullHandle, h.status_zero, h.before_first⟩

/-- What a command can do outside the session keeps the bounds; that it ended with an outcome, whose code STATUS is, gives the
rest. -/
theorem Reaches.inv {s t : State} {es : List Event} {o : CmdOutcome} (h : Reaches s t es) (hs : s.Inv)
    (ho : t.outcome = some o) (hnull : o ≠ .nullHandle)
    (hstatus : s.params.statusOverrides = [] → ∃ c, t.status = defaultStatusCode c o) : t.Inv where
  txLen_le := h.txLen.elim (fun ht => ht ▸ hs.txLen_le) id
  rxLen_le := h.params ▸ h.rxLen.elim (fun ht => ht ▸ hs.rxLen_le) id
  resultLen_le := h.resultLen.elim (fun ht => ht ▸ hs.resultLen_le) id
  no_nullHandle := by simpa [ho] using hnull
  status_zero hno := by
    obtain ⟨c, hc⟩ := hstatus (h.params ▸ hno)
    rw [hc, ho, defaultStatusCode_eq_zero]
    simp
  before_first hnone := by simp [ho] at hnone

/-- Settles O53: a waiting block keeps it, and every descriptor ends with an outcome and its code, the lengths within their
buffers. -/
theorem stepKeepsTheInvariant : Obligations.StepKeepsTheInvariant := by
  intro s t hs h
  rcases step_next h with ⟨-, rfl⟩ | ⟨c, rest, -, ⟨i, hi⟩ | ⟨k, rfl⟩⟩
  · exact hs
  · obtain ⟨es, -, ht⟩ := exec_next hi
    obtain ⟨o, ho⟩ := exec_outcome hi
    refine ht.inv (hs.accepted rest) ho ?_ fun hno => ?_
    · rintro rfl
      exact ne_nullHandle_of_endsIn (exec_endsIn hi) ho
    · obtain ⟨o', -, ho', hstatus⟩ := exec_status hi hno
      obtain rfl : o = o' := Option.some.inj (ho.symm.trans ho')
      exact ⟨_, hstatus⟩
  · exact (reaches_ended _ k .illegalCommand).inv (hs.accepted rest) rfl (by decide) fun hno =>
      ⟨k, statusCode_of_no_overrides hno k _⟩

end Sys2Proof.Machine
end

section
/-! PROOFS. The session commands (42_session.md R180 to R184) and the operand checks (60_exceptions.md R343 step 3), each from what
the gate and the calls of the RF front end do. -/

namespace Sys2Proof.Machine

/-! ### The RF front end -/

/-- The next RF status is the first one listed, which is used up, or a free value, which advances the counter (00_scope.md R16;
log entries 2 and 15). -/
theorem nextRfStatus_eq (s : State) : ∃ st t, nextRfStatus s = (st, t) ∧
    (s.rfAnswers = st :: t.rfAnswers ∧ t = { s with rfAnswers := t.rfAnswers } ∨
      s.rfAnswers = [] ∧ t = { s with freeCount := s.freeCount + 1 }) := by
  rcases ha : s.rfAnswers with _ | ⟨st, rest⟩
  · exact ⟨_, { s with rfAnswers := [], freeCount := s.freeCount + 1 }, by simp only [nextRfStatus, ha]; rfl,
      .inr ⟨rfl, rfl⟩⟩
  · exact ⟨st, { s with rfAnswers := rest }, by simp only [nextRfStatus, ha], .inl ⟨rfl, rfl⟩⟩

/-- INIT with a collaborator missing (42_session.md R180). -/
theorem execInit_missing {s : State} {o : CmdOutcome} (h : missingCollaborator s.collabPresent = some o) :
    exec .init s = .next (({ s with initFlag := false } : State).ended (some .init) o) := by
  simp only [exec, execInit, h]

/-- INIT with every collaborator present is decided by the status of RfInit (42_session.md R180). -/
theorem execInit_present {s t : State} {st : Nat} (h : missingCollaborator s.collabPresent = none)
    (hr : rfInit s = (st, t)) :
    exec .init s =
      if st = 0 then .next (t.initialised.ended (some .init) .ok)
      else .next (({ t with initFlag := false } : State).ended (some .init) .operationFailed) := by
  simp only [exec, execInit, h, hr]
  by_cases h0 : st = 0
  · rw [if_neg (not_not.mpr h0), if_pos h0]
  · rw [if_pos h0, if_neg h0]

/-- Settles O13: the first check that fails decides, and with none failing the status of RfInit. -/
theorem initMeaning : Obligations.InitMeaning := by
  intro s
  refine ⟨fun h0 => ?_, fun h0 h1 => ?_, fun h0 h1 h2 => ?_, fun h0 h1 h2 h3 => ?_, fun h0 h1 h2 h3 h4 => ?_,
    fun h => ?_⟩
  · exact execInit_missing (by simp only [missingCollaborator, h0, if_true])
  · exact execInit_missing (by simp only [missingCollaborator, h0, h1, reduceCtorEq, if_true, if_false])
  · exact execInit_missing (by simp only [missingCollaborator, h0, h1, h2, reduceCtorEq, if_true, if_false])
  · exact execInit_missing (by simp only [missingCollaborator, h0, h1, h2, h3, reduceCtorEq, if_true, if_false])
  · exact execInit_missing (by simp only [missingCollaborator, h0, h1, h2, h3, h4, reduceCtorEq, if_true, if_false])
  · obtain ⟨st, t, hr, ht⟩ := nextRfStatus_eq (s.emit .rfInit)
    exact ⟨st, t, ht, execInit_present (by rw [h]; decide) hr⟩

/-- Settles O15: the gate, and then the status of RfDeinit. -/
theorem deinitMeaning : Obligations.DeinitMeaning := by
  refine fun s => ⟨gated_of_not_init _ _, fun hi => ?_⟩
  obtain ⟨st, t, hr, ht⟩ := nextRfStatus_eq (s.emit .rfDeinit)
  refine ⟨st, t, ht, ?_⟩
  have hrf : rfDeinit s = (st, t) := hr
  simp only [exec, execDeinit, gated_of_init _ _ hi, hrf]
  by_cases h0 : st = 0
  · simp [h0]
  · simp [h0]

/-- Settles O16: a record within RESULT is not cut. -/
theorem infoMeaning : Obligations.InfoMeaning := by
  intro s hlen
  refine ⟨?_, State.resultBytes_setResult s hlen⟩
  simp only [exec, execInfo, List.take_of_length_le hlen, finish_ok]

/-- Settles O17: the gate, and then one write each. -/
theorem storageMeaning : Obligations.StorageMeaning :=
  fun s _ => ⟨fun hi => ⟨gated_of_not_init _ _ hi, gated_of_not_init _ _ hi⟩,
    fun hi => ⟨gated_of_init _ _ hi, gated_of_init _ _ hi, State.resultBytes_setResult s (by simp)⟩⟩

/-! ### Operand errors -/

/-- A gated command whose body raises at once. -/
theorem gated_raised {c : Opsel} {s : State} {body : State → Run Unit} {o : CmdOutcome} (hi : s.initFlag = true)
    (hb : body s = .raised o s) : gated c s body = .next (s.ended (some c) o) := by
  rw [gated_of_init _ _ hi, hb, finish_raised]

/-- A check that fails ends the run it begins. -/
theorem Run.andThen_of_raised {α β : Type} {r : Run α} {k : α → State → Run β} {o : CmdOutcome} {s : State}
    (h : r = .raised o s) : r.andThen k = .raised o s := by
  rw [h, Run.andThen_raised]

theorem checkCounterAddr_raised {a : Byte} {s : State} {o : CmdOutcome}
    (h : (if a.toNat ≤ 2 then none else some CmdOutcome.invalidAddress) = some o) :
    checkCounterAddr a s = .raised o s := by
  rw [checkCounterAddr_eq]
  split_ifs at h ⊢
  rw [Option.some.inj h]

theorem checkAtMost_raised {v max : Byte} {s : State} {o : CmdOutcome}
    (h : (if v.toNat ≤ max.toNat then none else some CmdOutcome.invalidParameter) = some o) :
    checkAtMost v max s = .raised o s := by
  rw [checkAtMost_eq]
  split_ifs at h ⊢
  rw [Option.some.inj h]

/-- The three checks over the operands' values (44_memory_ops.md R233). -/
theorem checkFastRead_eq (start stop : Byte) (cap : Word16) (s : State) :
    checkFastRead start stop cap s =
      if stop.toNat < start.toNat then .raised .invalidRange s
      else if 15 < stop.toNat - start.toNat + 1 then .raised .rangeTooLarge s
      else if cap.toNat < 4 * (stop.toNat - start.toNat + 1) then .raised .bufferTooSmall s
      else .ok () s :=
  rfl

theorem checkFastRead_raised {start stop : Byte} {cap : Word16} {s : State} {o : CmdOutcome}
    (h : operandError s (.fastRead start stop cap) = some o) : checkFastRead start stop cap s = .raised o s := by
  simp only [operandError] at h
  rw [checkFastRead_eq]
  split_ifs at h with h1 h2 h3
  · rw [if_pos h1, Option.some.inj h]
  · rw [if_neg h1, if_pos h2, Option.some.inj h]
  · rw [if_neg h1, if_neg h2, if_pos h3, Option.some.inj h]

/-- Only the values 0 and 1 select an access bit (46_config.md R308). -/
theorem accessField_eq_none {which : Byte} (h : ¬ which.toNat ≤ 1) : accessField which = none := by
  have h0 : which ≠ 0x00#8 := fun hw => h (hw ▸ by decide)
  have h1 : which ≠ 0x01#8 := fun hw => h (hw ▸ by decide)
  rw [accessField, if_neg h0, if_neg h1]

/-- Settles O19: each check of the spec is the first step of its command's body. -/
theorem operandErrorsEndBeforeAnyExchange : Obligations.OperandErrorsEndBeforeAnyExchange := by
  intro i s o hi h
  cases i with
  | anticollCl2 | selectCl2 id =>
    simp only [operandError] at h
    split_ifs at h with hc
    cases h
    exact cascade_refuses _ _ hi hc.1 hc.2
  | fastRead start stop cap => exact gated_raised hi (Run.andThen_of_raised (checkFastRead_raised h))
  | readCounter a | incrementCounter a v | checkTearing a =>
    exact gated_raised hi (Run.andThen_of_raised (checkCounterAddr_raised h))
  | setModulation m => exact gated_raised hi (Run.andThen_of_raised (checkAtMost_raised (max := 1#8) h))
  | setAuthLimit l => exact gated_raised hi (Run.andThen_of_raised (checkAtMost_raised (max := 7#8) h))
  | setAccess which enable =>
    refine gated_raised hi ?_
    simp only [operandError] at h
    by_cases hw : which.toNat ≤ 1
    · simp only [hw, true_and] at h
      rw [accessField_le hw]
      exact Run.andThen_of_raised (checkAtMost_raised (max := 1#8) h)
    · rw [if_neg fun hc => hw hc.1] at h
      rw [accessField_eq_none hw, Option.some.inj h]
  | getAccess which =>
    refine gated_raised hi ?_
    simp only [operandError] at h
    split_ifs at h with hw
    rw [accessField_eq_none hw, Option.some.inj h]
  | crcCheck data =>
    refine gated_raised hi ?_
    simp only [operandError] at h
    split_ifs at h ⊢
    rw [Option.some.inj h]
  | _ => cases h

end Sys2Proof.Machine
end

section
/-! PROOFS. Configuration fields (46_config.md R300, R301): the mask of a field has exactly the field's bits, so writing a field
and reading it back act bit by bit. -/

namespace Sys2Proof.Machine

/-- The low w bits, as a byte (46_config.md R301). -/
theorem getLsbD_lowBits (w : Nat) {n : Nat} (hn : n < 8) :
    (BitVec.ofNat 8 (2 ^ w - 1)).getLsbD n = decide (n < w) := by
  rw [BitVec.getLsbD_ofNat, Nat.testBit_two_pow_sub_one, decide_eq_true hn, Bool.true_and]

/-- The mask has exactly the field's bits (46_config.md R301). -/
theorem getLsbD_fieldMask (f : CfgField) {n : Nat} (hn : n < 8) :
    (fieldMask f).getLsbD n = decide (f.lo ≤ n ∧ n < f.lo + f.width) := by
  rw [fieldMask, BitVec.getLsbD_ofNat, Nat.testBit_mul_two_pow, Nat.testBit_two_pow_sub_one, decide_eq_true hn,
    Bool.true_and, ← Bool.decide_and]
  exact decide_eq_decide.mpr (and_congr_right fun h => by omega)

/-- Inside the field the value's low bits, outside the old byte (46_config.md R301, CfgSet). -/
theorem getLsbD_insertField (f : CfgField) (v old : Byte) {n : Nat} (hn : n < 8) :
    (insertField f v old).getLsbD n =
      if f.lo ≤ n ∧ n < f.lo + f.width then v.getLsbD (n - f.lo) else old.getLsbD n := by
  simp only [insertField, BitVec.getLsbD_or, BitVec.getLsbD_and, BitVec.getLsbD_not, BitVec.getLsbD_shiftLeft,
    getLsbD_fieldMask f hn]
  split_ifs with h
  · simp [h, hn, Nat.not_lt.mpr h.1]
  · simp [h, hn]

/-- The bits of the field, moved down (46_config.md R301, CfgGet). -/
theorem getLsbD_extractField (f : CfgField) (x : Byte) {n : Nat} (hn : n < 8) :
    (extractField f x).getLsbD n = (x.getLsbD (f.lo + n) && decide (n < f.width)) := by
  rw [extractField, BitVec.getLsbD_and, BitVec.getLsbD_ushiftRight, getLsbD_lowBits f.width hn]

theorem getLsbD_of_lt {v : Byte} {w n : Nat} (h : v.toNat < 2 ^ w) (hn : w ≤ n) : v.getLsbD n = false :=
  Nat.testBit_lt_two_pow (Nat.lt_of_lt_of_le h (Nat.pow_le_pow_right (by decide) hn))

/-- A value that fits the field reads back. -/
theorem extractField_insertField {f : CfgField} {v : Byte} (old : Byte) (hf : f.lo + f.width ≤ 8)
    (hv : v.toNat < 2 ^ f.width) : extractField f (insertField f v old) = v := by
  apply BitVec.eq_of_getLsbD_eq
  intro n hn
  rw [getLsbD_extractField f _ hn]
  by_cases hw : n < f.width
  · rw [getLsbD_insertField f v old (by omega), if_pos ⟨by omega, by omega⟩, Nat.add_sub_cancel_left]
    simp [hw]
  · rw [getLsbD_of_lt hv (Nat.not_lt.mp hw)]
    simp [hw]

/-- The field's byte of the page that CfgSet writes back (46_config.md R301). -/
theorem setFieldByte_at {f : CfgField} {d : List Byte} (v : Byte) (h : f.byteIx.val < d.length) :
    (setFieldByte f v d)[f.byteIx.val]? = some (insertField f v (d.getD f.byteIx.val 0x00#8)) := by
  rw [setFieldByte, List.getElem?_set_self h]

/-- Settles O42: both operations bit by bit, and the one byte of the page that the field lies in. -/
theorem fieldWritesAreIsolated : Obligations.FieldWritesAreIsolated := by
  intro f v old hf
  refine ⟨fun n hn => getLsbD_insertField f v old hn, extractField_insertField old hf, fun d hd => ?_⟩
  have hix : f.byteIx.val < d.length := f.byteIx.isLt.trans_eq hd.symm
  refine ⟨by rw [length_setFieldByte, hd], fun n hn => ?_, setFieldByte_at v hix, fun hv => ?_⟩
  · exact List.getElem?_set_ne hn.symm
  · rw [fieldOfPage, List.getD_eq_getElem?_getD, setFieldByte_at v hix]
    exact extractField_insertField _ hf hv

end Sys2Proof.Machine
end

section
/-! PROOFS. Exchanges that fail (41_frame_codec.md R152, 60_exceptions.md R352): the first one of a command, from how every wire
command begins, and the second one of the commands that make two. -/

namespace Sys2Proof.Machine

/-! ### The first exchange -/

theorem State.observed_ended (s : State) (c : Option Opsel) (o : CmdOutcome) :
    (s.ended c o).observed = s.observed.ended c o := rfl

/-- A command whose first exchange, or a check of its response, raises o. -/
theorem FirstStep.failed_of_raised {i : Instr} {s u : State} {tx rx : List Byte} {cap : Nat} {w : State → State}
    {k : List Byte → State → Run Unit} {rest : List Answer} {o : CmdOutcome} {crc : Word16}
    (h : FirstStep i s tx cap u w k) (hr : rx.length ≤ s.params.rxLenMax.toNat)
    (hx : (transact tx cap u).andThen k = .raised o { u.exchanged tx cap rx rest with crcReg := crc }) :
    ∃ t, exec i s = .next t ∧ t.observed = failedAtFirst s i tx cap rest o ∧ t.txFrame = tx ∧ t.rxFrame = rx := by
  obtain ⟨htx, hrx, -⟩ := h.buffers { u.exchanged tx cap rx rest with crcReg := crc }
  have hexec : exec i s = .next ((w { u.exchanged tx cap rx rest with crcReg := crc }).ended (some i.opsel) o) := by
    rw [h.exec_eq, hx, Run.onRaise_raised, finish_raised]
  refine ⟨_, hexec, ?_, htx.trans ?_, hrx.trans ?_⟩
  · rw [State.observed_ended, h.failed, failedAtFirst]
  · exact State.txFrame_loadFrame u h.tx_le
  · exact State.rxFrame_exchanged u tx cap rest (h.params ▸ hr)

/-- Settles O20: the first Transact raises before anything of its response is examined. -/
theorem transportFailureEndsTheCommand : Obligations.TransportFailureEndsTheCommand := by
  intro i s tx cap st rx rest hi ho hf ha hst hr
  obtain ⟨u, w, k, hstep⟩ := firstStep_exists hi ho hf
  refine hstep.failed_of_raised (crc := u.crcReg) hr ?_
  rw [transact_listed cap hstep.tx_le (hstep.answers.trans ha) (hstep.params ▸ hr), if_pos hst, Run.andThen_raised]
  rfl

/-- Settles O21: the first Transact goes on, and the checks after it raise the first failure. -/
theorem firstResponseChecksInOrder : Obligations.FirstResponseChecksInOrder := by
  rintro i s tx cap rx rest o hi ho hf ⟨ha, hr⟩ herr
  obtain ⟨u, w, k, hstep⟩ := firstStep_exists hi ho hf
  obtain ⟨crc, hcrc⟩ := hstep.checks rx (u.exchanged tx cap rx rest) o herr
  refine hstep.failed_of_raised (crc := crc) hr ?_
  rw [transact_listed cap hstep.tx_le (hstep.answers.trans ha) (hstep.params ▸ hr), if_neg (not_not.mpr rfl),
    Run.andThen_ok, hcrc]

/-- A first exchange that never returns stops its command. -/
theorem FirstStep.stops {i : Instr} {s u : State} {tx : List Byte} {cap : Nat} {w : State → State}
    {k : List Byte → State → Run Unit} {rest : List Answer} (h : FirstStep i s tx cap u w k)
    (ha : s.exchangeAnswers = .neverReturns :: rest) : exec i s = .fault .exchangeNeverReturns := by
  rw [h.exec_eq, transact, exchange_never tx cap (h.answers.trans ha), Run.andThen_stuck, Run.andThen_stuck,
    Run.onRaise_stuck, finish_stuck]

/-! ### The second exchange -/

/-- A two-write command whose first write is acknowledged is its second write (70_reset_and_hazards.md R388). -/
theorem exec_twoWrites {i : Instr} {s : State} {p1 p2 : List Byte} {rest : List Answer} (hi : s.initFlag = true)
    (h : twoWrites s i = some (p1, p2)) (hr : s.replies [0x0A#8] rest) :
    exec i s = finish i.opsel (transactAck p2 (s.gotAck p1 rest)) := by
  cases i with
  | compWrite p d =>
    cases h
    simp only [exec, execCompWrite, gated_of_init _ _ hi]
    rw [transactAck_good (by simp) hr, Run.andThen_ok]
    rfl
  | setPasswordPack pwd k0 k1 =>
    cases h
    simp only [exec, execSetPasswordPack, gated_of_init _ _ hi]
    rw [writePageRaw_good _ (length_quadBytes pwd) hr, Run.andThen_ok]
    rfl
  | setLock l0 l1 l2 l3 l4 =>
    cases h
    simp only [exec, execSetLock, gated_of_init _ _ hi]
    rw [writePageRaw_good _ rfl hr, Run.andThen_ok]
    rfl
  | _ => cases h

theorem length_of_twoWrites {i : Instr} {s : State} {p1 p2 : List Byte} (h : twoWrites s i = some (p1, p2)) :
    p2.length ≤ 16 := by
  cases i with
  | compWrite | setPasswordPack | setLock =>
    cases h
    simp
  | _ => cases h

/-- A configuration SET whose page was read well is its write (46_config.md R301). -/
theorem exec_configWrite_read {i : Instr} {s : State} {f : Field} {v : Byte} {d : List Byte} {rest : List Answer}
    (hi : s.initFlag = true) (ho : operandError s i = none) (h : configWrite i = some (f, v)) (hd : d.length = 16)
    (hr : s.replies (frameWithCrc d) rest) :
    exec i s = finish i.opsel (transactAck
      ([s.params.wireOp.write, fieldPage f s] ++ setFieldByte (cfgFieldOf s.params f) v (d.take 4))
      (s.gotData [s.params.wireOp.read, fieldPage f s] d rest)) := by
  rw [exec_configWrite hi ho h, cfgSet, readPageRaw_good _ hd hr, Run.andThen_ok]
  rfl

theorem length_writtenPage (op page : Byte) (f : CfgField) (v : Byte) {d : List Byte} (hd : d.length = 16) :
    ([op, page] ++ setFieldByte f v (d.take 4)).length ≤ 16 := by
  simp [hd]

/-- GET_LOCK whose first page was read well is its second read (46_config.md R303). -/
theorem exec_getLock_read {s : State} {d : List Byte} {rest : List Answer} (hi : s.initFlag = true) (hd : d.length = 16)
    (hr : s.replies (frameWithCrc d) rest) :
    exec .getLock s = finish .getLock
      ((transactData [s.params.wireOp.read, s.endPage - 4#8] 16
        (s.gotData [s.params.wireOp.read, s.params.lockLowPage] d rest)).andThen fun e t =>
          .ok () (t.setResult (lockBytes d e))) := by
  simp only [exec, execGetLock, gated_of_init _ _ hi]
  rw [readPageRaw_good _ hd hr, Run.andThen_ok]
  rfl

/-- An exchange answered with anything but the ACK raises by that answer (41_frame_codec.md R152). -/
theorem transactAck_failed {p : List Byte} {s : State} {st : Nat} {rx : List Byte} {rest : List Answer}
    (hp : p.length ≤ 16) (ha : s.exchangeAnswers = .returns st rx :: rest)
    (hr : rx.length ≤ s.params.rxLenMax.toNat) (hbad : st ≠ 0 ∨ rx ≠ [0x0A#8]) :
    transactAck p s = .raised (ackFailureOutcome st rx) (s.exchangedCrc p 1 rx rest) := by
  rw [transactAck_listed hp ha hr, ackFailureOutcome]
  split_ifs with h0 hlen hack
  · rfl
  · rfl
  · rfl
  · exact absurd hbad (by simp_all [ackByte])

/-- Settles O22: the first write goes on, and the second raises by its answer. -/
theorem secondWriteFailureIsReported : Obligations.SecondWriteFailureIsReported := by
  intro i s p1 p2 st rx rest hi h ha hmax hr hbad
  rw [exec_twoWrites hi h ⟨ha, hmax⟩,
    transactAck_failed (s := s.gotAck p1 _) (length_of_twoWrites h) rfl hr hbad, finish_raised]

/-- Settles O56: the read goes on, and the write raises by its answer. -/
theorem configWriteFailureIsReported : Obligations.ConfigWriteFailureIsReported := by
  intro i s f v d st rx rest hi ho h hd ha hmax hr hbad
  have hread : s.replies (frameWithCrc d) (.returns st rx :: rest) := ⟨ha, by simpa [hd] using hmax⟩
  rw [exec_configWrite_read hi ho h hd hread,
    transactAck_failed (s := s.gotData _ d _) (length_writtenPage _ _ _ v hd) rfl hr hbad, finish_raised]
  rfl

/-- Settles O57: the first read goes on, and the second raises by its answer, before RESULT is written. -/
theorem getLockSecondReadFailureIsReported : Obligations.GetLockSecondReadFailureIsReported := by
  intro s d st rx rest hi hd ha hmax hr
  have hread : s.replies (frameWithCrc d) (.returns st rx :: rest) := ⟨ha, by simpa [hd] using hmax⟩
  rw [exec_getLock_read hi hd hread, transactData_listed (s := s.gotData _ d _) 16 (by simp) rfl hr]
  dsimp only
  refine ⟨fun h0 => ?_, fun h0 hlen => ?_, fun h0 hlen hcrc => ?_, ?_, ?_⟩
  · rw [if_pos h0, Run.andThen_raised, finish_raised]
  · rw [if_neg (not_not.mpr h0), if_pos hlen, Run.andThen_raised, finish_raised]
  · rw [if_neg (not_not.mpr h0), if_neg (not_not.mpr hlen), if_pos hcrc, Run.andThen_raised, finish_raised]
  · rw [State.exchangedCrc_result, State.gotData_result]
  · rw [State.exchangedCrc_resultLen, State.gotData_resultLen]

/-- Settles O23: each exchange that never returns is the first one left, and its command stops with it. -/
theorem exchangeThatNeverReturnsStops : Obligations.ExchangeThatNeverReturnsStops := by
  refine ⟨fun i s tx cap rest hi ho hf ha => ?_, fun i s payloads rest hi h hmax ha => ?_,
    fun i s d rest hi ho hkind hd hmax ha => ?_⟩
  · obtain ⟨u, w, k, hstep⟩ := firstStep_exists hi ho hf
    exact hstep.stops ha
  · rw [exec_twoWrites hi h ⟨ha, hmax⟩, transactAck_never _ (by rfl), finish_stuck]
  · have hread : s.replies (frameWithCrc d) (.neverReturns :: rest) := ⟨ha, by simpa [hd] using hmax⟩
    rcases hkind with rfl | ⟨f, v, h⟩
    · rw [exec_getLock_read hi hd hread, transactData_never _ _ (by rfl), Run.andThen_stuck, finish_stuck]
    · rw [exec_configWrite_read hi ho h hd hread, transactAck_never _ (by rfl), finish_stuck]

end Sys2Proof.Machine
end

section
/-! PROOFS. What each wire command does when its responses are accepted (43_selection.md, 44_memory_ops.md, 45_counter_auth.md,
46_config.md): the gate and the operand checks pass, and each exchange gives what the shared operations say. -/

namespace Sys2Proof.Machine

/-- A gated command whose body returns. -/
theorem gated_ok {c : Opsel} {s t : State} {body : State → Run Unit} (hi : s.initFlag = true)
    (hb : body s = .ok () t) : gated c s body = .next (t.ended (some c) .ok) := by
  rw [gated_of_init _ _ hi, hb, finish_ok]

/-- A piece that goes on leaves the rest to decide. -/
theorem Run.andThen_of_ok {α β : Type} {r : Run α} {k : α → State → Run β} {a : α} {s : State} (h : r = .ok a s) :
    r.andThen k = k a s := by
  rw [h, Run.andThen_ok]

/-! ### Selection -/

/-- Settles O24: both commands deselect, WAKE_UP waits, and the ATQA is accepted. -/
theorem requestAndWakeUpComplete : Obligations.RequestAndWakeUpComplete :=
  fun s _ hi h => ⟨gated_ok hi (requestTag_good (s := s.deselect) _ h),
    gated_ok hi (requestTag_good (s := delayMs _ s.deselect) _ h)⟩

/-- Settles O25: the frame is sent as HALT_APPEND_CRC says, and the response is not examined. -/
theorem haltCompletes : Obligations.HaltCompletes := by
  rintro s rx rest hi ⟨ha, hr⟩
  refine ⟨fun hcrc => gated_ok hi ?_, fun hcrc => gated_ok hi ?_⟩
  · have hframe : haltFrame s.deselect = .ok [s.params.wireOp.hlta0, s.params.wireOp.hlta1] s.deselect := by
      simp [haltFrame, hcrc]
    rw [Run.andThen_of_ok hframe, transact_listed (s := s.deselect) 1 (by simp) ha hr, if_neg (not_not.mpr rfl),
      Run.andThen_ok]
    rfl
  · have hframe : haltFrame s.deselect = withCrc [s.params.wireOp.hlta0, s.params.wireOp.hlta1] s.deselect := by
      simp [haltFrame, hcrc]
    rw [hframe, withCrc_eq, Run.andThen_ok, transact_listed (s := s.deselect.computeCrc _) 1 (by simp) ha hr,
      if_neg (not_not.mpr rfl), Run.andThen_ok]
    rfl

/-- Settles O26: the cascade check passes, and the id's check byte is right. -/
theorem anticollisionCompletes : Obligations.AnticollisionCompletes :=
  fun _ id _ hi h => ⟨gated_ok hi (anticollision_good _ _ id h),
    fun hc => gated_ok hi ((Run.andThen_of_ok (checkCascade_ok _ hc)).trans (anticollision_good _ _ id h))⟩

/-- Settles O27: the cascade check passes, and the SAK is the one expected. -/
theorem selectCompletes : Obligations.SelectCompletes :=
  fun _ id _ hi => ⟨fun h => gated_ok hi (selectLevel_good _ _ id _ _ h),
    fun h hc => gated_ok hi ((Run.andThen_of_ok (checkCascade_ok _ hc)).trans (selectLevel_good _ _ id _ _ h))⟩

/-! ### Reads -/

/-- The commands that begin with a data exchange and return. -/
theorem gated_data {c : Opsel} {s t : State} {p d : List Byte} {n : Nat} {rest : List Answer}
    {body : State → Run Unit} {k : List Byte → State → Run Unit} (hi : s.initFlag = true)
    (hb : body s = (transactData p n s).andThen k) (hp : p.length ≤ 16) (hd : d.length = n)
    (h : s.replies (frameWithCrc d) rest) (hk : k d (s.gotData p d rest) = .ok () t) :
    gated c s body = .next (t.ended (some c) .ok) := by
  subst hd
  exact gated_ok hi (hb.trans ((Run.andThen_of_ok (transactData_good hp h)).trans hk))

/-- Settles O28: the storage byte is byte 6 of the record. -/
theorem getVersionCompletes : Obligations.GetVersionCompletes := by
  intro s d rest hi hd h
  refine gated_data hi rfl (by simp) hd h ?_
  have h6 : d[6]? = some (d.getD 6 0#8) := by
    rw [List.getD_eq_getElem?_getD, List.getElem?_eq_getElem (by omega), Option.getD_some]
  simp only [h6, Option.some.injEq]
  rfl

/-- Settles O29: one page read, and the part of it that each command reports. -/
theorem readsComplete : Obligations.ReadsComplete :=
  fun _ _ _ _ hi hd h => ⟨gated_data hi rfl (by simp) hd h rfl, gated_data hi rfl (by simp) hd h rfl,
    gated_data hi rfl (by simp) hd h rfl, gated_data hi rfl (by simp) hd h rfl⟩

/-- Settles O30: the three range and buffer checks pass, and 60 bytes fit RESULT. -/
theorem fastReadCompletes : Obligations.FastReadCompletes := by
  intro s start stop cap d rest hi hle hpages hd hcap h
  have hcheck : checkFastRead start stop cap s = .ok () s := by
    rw [checkFastRead_eq, if_neg (Nat.not_lt.mpr hle), if_neg (Nat.not_lt.mpr hpages),
      if_neg (Nat.not_lt.mpr (hd ▸ hcap))]
  refine ⟨gated_data hi (Run.andThen_of_ok hcheck) (by simp) hd h rfl, State.resultBytes_setResult _ ?_⟩
  omega

/-- Settles O33: one data exchange of 32 bytes. -/
theorem readSignatureCompletes : Obligations.ReadSignatureCompletes :=
  fun _ _ _ hi hd h => gated_data hi rfl (by simp) hd h rfl

theorem checkCounterAddr_ok {a : Byte} (s : State) (h : a.toNat ≤ 2) : checkCounterAddr a s = .ok () s := by
  rw [checkCounterAddr_eq, if_pos h]

/-- Settles O34: the address is legal, and the data exchange gives three bytes or one. -/
theorem counterReadsComplete : Obligations.CounterReadsComplete :=
  fun s _ _ _ _ _ hi ha => ⟨
    fun h => gated_data hi (Run.andThen_of_ok (checkCounterAddr_ok s ha)) (by simp) rfl h rfl,
    fun h => gated_data hi (Run.andThen_of_ok (checkCounterAddr_ok s ha)) (by simp) rfl h rfl⟩

/-- Settles O36: the pack is compared after the CRC has passed. -/
theorem authenticateComparesThePack : Obligations.AuthenticateComparesThePack := by
  intro s pwd k0 k1 r0 r1 rest hi h
  refine ⟨fun heq => gated_data hi rfl (by simp) rfl h ?_, fun hne => ?_⟩
  · rw [if_neg (by simp [heq])]
  · have hpack : [r0, r1] ≠ [k0, k1] := by simpa [imp_iff_not_or] using hne
    have hdata : transactData (s.params.wireOp.pwdAuth :: quadBytes pwd) 2 s =
        .ok [r0, r1] (s.gotData (s.params.wireOp.pwdAuth :: quadBytes pwd) [r0, r1] rest) :=
      transactData_good (d := [r0, r1]) (by simp) h
    simp only [exec, execAuthenticate, gated_of_init _ _ hi]
    rw [Run.andThen_of_ok hdata, if_pos hpack, finish_raised]

/-! ### Writes -/

/-- Settles O31: one acknowledged WRITE frame. -/
theorem writesComplete : Obligations.WritesComplete :=
  fun _ _ d _ hi h => ⟨gated_ok hi (writePageRaw_good _ (length_quadBytes d) h),
    gated_ok hi (writePageRaw_good _ (length_quadBytes d) h)⟩

/-- A two-write command with both writes acknowledged (70_reset_and_hazards.md R388). -/
theorem exec_twoWrites_good {i : Instr} {s : State} {p1 p2 : List Byte} {rest : List Answer} (hi : s.initFlag = true)
    (h : twoWrites s i = some (p1, p2)) (hr : s.repliesTwice [0x0A#8] [0x0A#8] rest) :
    exec i s = .next (((s.gotAck p1 (.returns 0 [0x0A#8] :: rest)).gotAck p2 rest).ended (some i.opsel) .ok) := by
  obtain ⟨ha, h1, h2⟩ := hr
  rw [exec_twoWrites hi h ⟨ha, h1⟩, transactAck_good (s := s.gotAck p1 _) (length_of_twoWrites h) ⟨rfl, h2⟩, finish_ok]

/-- Settles O32: the request, then the data with twelve zeros. -/
theorem compWriteCompletes : Obligations.CompWriteCompletes :=
  fun _ p d _ hi h => exec_twoWrites_good (i := .compWrite p d) hi rfl h

/-- Settles O37: the password page, then the pack page. -/
theorem setPasswordPackCompletes : Obligations.SetPasswordPackCompletes :=
  fun _ pwd k0 k1 _ hi h => exec_twoWrites_good (i := .setPasswordPack pwd k0 k1) hi rfl h

/-- Settles O38: the low lock page, then the high one. -/
theorem setLockCompletes : Obligations.SetLockCompletes :=
  fun _ l0 l1 l2 l3 l4 _ hi h => exec_twoWrites_good (i := .setLock l0 l1 l2 l3 l4) hi rfl h

/-- The three low bytes of the delta, as the frame holds them (45_counter_auth.md R271). -/
theorem le24_eq (v : BitVec 32) : le24 v = [v.extractLsb' 0 8, v.extractLsb' 8 8, v.extractLsb' 16 8] := by
  simp only [le24, List.cons.injEq, and_true]
  refine ⟨?_, ?_, ?_⟩ <;> ext i hi <;> simp

/-- Bits 31:24 of the delta do not reach the frame (45_counter_auth.md R271). -/
theorem le24_mask (v : BitVec 32) : le24 (v &&& 0x00FFFFFF#32) = le24 v := by
  have hmask {i : Nat} (hi : i < 24) : (0x00FFFFFF#32).getLsbD i = true := by
    rw [BitVec.getLsbD_ofNat, show 0x00FFFFFF = 2 ^ 24 - 1 from rfl, Nat.testBit_two_pow_sub_one]
    simpa [hi] using Nat.lt_trans hi (by decide)
  simp only [le24, List.cons.injEq, and_true]
  refine ⟨?_, ?_, ?_⟩
  all_goals
    apply BitVec.eq_of_getLsbD_eq
    intro i hi
    simp only [BitVec.getLsbD_setWidth, BitVec.getLsbD_ushiftRight, BitVec.getLsbD_and]
    rw [hmask (by omega), Bool.and_true]

/-- Settles O35: the address is legal, and the frame holds the low three bytes of the delta alone. -/
theorem incrementCounterCompletes : Obligations.IncrementCounterCompletes := by
  intro s a v rest hi ha h
  refine ⟨gated_ok hi ((Run.andThen_of_ok (checkCounterAddr_ok s ha)).trans ?_), ?_⟩
  · rw [incrementPayload, le24_eq, transactAck_good (by simp) h]
    rfl
  · simp only [exec, execIncrementCounter, incrementPayload, le24_mask]

/-! ### Locks and configuration -/

/-- Settles O39: two page reads, and the lock bytes within them. -/
theorem getLockCompletes : Obligations.GetLockCompletes := by
  rintro s d e rest hi hd he ⟨ha, h1, h2⟩
  have hread := transactData_good (p := [s.params.wireOp.read, s.endPage - 4#8]) (d := e)
    (s := s.gotData [s.params.wireOp.read, s.params.lockLowPage] d (.returns 0 (frameWithCrc e) :: rest)) (by simp)
    ⟨rfl, h2⟩
  rw [he] at hread
  rw [exec_getLock_read hi hd ⟨ha, h1⟩, hread, Run.andThen_ok, finish_ok]
  rfl

/-- A configuration SET with legal operands, its read and its write good (46_config.md R301). -/
theorem exec_configWrite_good {i : Instr} {s : State} {f : Field} {v : Byte} {d : List Byte} {rest : List Answer}
    (hi : s.initFlag = true) (ho : operandError s i = none) (h : configWrite i = some (f, v)) (hd : d.length = 16)
    (hr : s.repliesTwice (frameWithCrc d) [0x0A#8] rest) :
    exec i s = .next (((s.gotData [s.params.wireOp.read, fieldPage f s] d (.returns 0 [0x0A#8] :: rest)).gotAck
      ([s.params.wireOp.write, fieldPage f s] ++ setFieldByte (cfgFieldOf s.params f) v (d.take 4)) rest).ended
        (some i.opsel) .ok) := by
  rw [exec_configWrite hi ho h, cfgSet_good f v hd hr, finish_ok]

/-- Settles O40: each command is CfgSet of its field. -/
theorem configSetsComplete : Obligations.ConfigSetsComplete := by
  intro s v d rest hi hd h
  refine ⟨fun hv => ?_, ?_, fun hv => ?_, fun hv => ?_, fun hv => ?_, ?_⟩
  · exact exec_configWrite_good (i := .setModulation v) hi (if_pos hv) rfl hd h
  · exact exec_configWrite_good (i := .setProtectStart v) hi rfl rfl hd h
  · exact exec_configWrite_good (i := .setAccess 0x00#8 v) hi (if_pos ⟨by decide, hv⟩) rfl hd h
  · exact exec_configWrite_good (i := .setAccess 0x01#8 v) hi (if_pos ⟨by decide, hv⟩) rfl hd h
  · exact exec_configWrite_good (i := .setAuthLimit v) hi (if_pos hv) rfl hd h
  · exact exec_configWrite_good (i := .setVctid v) hi rfl rfl hd h

/-- A configuration GET of the field f, its page read well (46_config.md R301). -/
theorem getField_good {s : State} {d : List Byte} {rest : List Answer} (f : Field) (hd : d.length = 16)
    (h : s.replies (frameWithCrc d) rest) :
    getField f s = .ok () ((s.gotData [s.params.wireOp.read, fieldPage f s] d rest).setResult
      [fieldOfPage (cfgFieldOf s.params f) d]) := by
  rw [getField, cfgGet_good f hd h, Run.andThen_ok]

/-- Settles O41: each command is CfgGet of its field. -/
theorem configGetsComplete : Obligations.ConfigGetsComplete :=
  fun _ _ _ hi hd h => ⟨gated_ok hi (getField_good .mod hd h), gated_ok hi (getField_good .auth0 hd h),
    gated_ok hi (getField_good .prot hd h), gated_ok hi (getField_good .cfglck hd h),
    gated_ok hi (getField_good .authlim hd h), gated_ok hi (getField_good .vctid hd h)⟩

end Sys2Proof.Machine
end

section
/-! PROOFS. The host sequences (30_encoding.md R88): what one command of a sequence passes on to the next, and the two sequences as
chains of such commands. -/

namespace Sys2Proof.Machine

/-! ### One command of a sequence -/

theorem hostStart_next {r : Host.Outcome State Fault Refusal} {t : State} (h : r = .next t) :
    hostStart r = .next (t, []) := by
  rw [h, hostStart]

theorem hostStart_fault {r : Host.Outcome State Fault Refusal} {f : Fault} (h : r = .fault f) :
    hostStart r = .fault f := by
  rw [h, hostStart]

section Chain

variable {s t : State} {id : List Byte} {issue : State → Host.Outcome State Fault Refusal} {keep : State → List Byte}

/-- A command that ends Ok adds its bytes. -/
theorem ifOk_ok (hs : s.outcome = some .ok) (h : issue s = .next t) (ht : t.outcome = some .ok) :
    ifOk (.next (s, id)) issue keep = .next (t, id ++ keep t) := by
  rw [ifOk_next hs h, if_pos ht]

/-- A command that does not end Ok adds nothing. -/
theorem ifOk_notOk (hs : s.outcome = some .ok) (h : issue s = .next t) (ht : t.outcome ≠ some .ok) :
    ifOk (.next (s, id)) issue keep = .next (t, id) := by
  rw [ifOk_next hs h, if_neg ht]

/-- A SELECT takes its id from RESULT and adds no bytes, however it ends (30_encoding.md R88). -/
theorem ifOk_select {select : Quad → Instr} (hs : s.outcome = some .ok)
    (h : exec (select (resultQuad s)) s = .next t) :
    ifOk (.next (s, id)) (fun s => exec (select (resultQuad s)) s) (fun _ => []) = .next (t, id) := by
  rw [ifOk_next (issue := fun s => exec (select (resultQuad s)) s) hs h, List.append_nil, ite_self]

theorem ifOk_select_fault {select : Quad → Instr} {f : Fault} (hs : s.outcome = some .ok)
    (h : exec (select (resultQuad s)) s = .fault f) :
    ifOk (.next (s, id)) (fun s => exec (select (resultQuad s)) s) keep = .fault f :=
  ifOk_issue_fault (issue := fun s => exec (select (resultQuad s)) s) hs h

end Chain

/-! ### Where a sequence ends -/

theorem cascade_runsOnlyAfterOk (first : Instr) (s : State) :
    runsOnlyAfterOk first s (cascade (hostStart (exec first s))) := by
  refine ⟨?_, fun s1 ⟨h1, o1⟩ => ⟨?_, fun s2 ⟨h2, o2⟩ => ⟨?_, fun s3 ⟨h3, o3⟩ => ⟨?_,
    fun s4 ⟨h4, o4⟩ t ht => ?_⟩⟩⟩⟩
  · rintro t ⟨ht, ho⟩
    simp only [cascade, hostStart_next ht, ifOk_stop ho]
  · rintro t ⟨ht, ho⟩
    simp only [cascade, hostStart_next h1, ifOk_notOk o1 ht ho, ifOk_stop ho]
  · rintro t ⟨ht, ho⟩
    simp only [cascade, hostStart_next h1, ifOk_ok o1 h2 o2, ifOk_select o2 ht, ifOk_stop ho, List.nil_append]
  · rintro t ⟨ht, ho⟩
    simp only [cascade, hostStart_next h1, ifOk_ok o1 h2 o2, ifOk_select o2 h3, ifOk_notOk o3 ht ho, ifOk_stop ho,
      List.nil_append]
  · simp only [cascade, hostStart_next h1, ifOk_ok o1 h2 o2, ifOk_select o2 h3, ifOk_ok o3 h4 o4, ifOk_select o4 ht,
      List.nil_append]

/-- Settles O59: a sequence goes past each command only by its Ok. -/
theorem hostSequencesStopAtTheFirstFailure : Obligations.HostSequencesStopAtTheFirstFailure :=
  fun s => ⟨cascade_runsOnlyAfterOk .request s, cascade_runsOnlyAfterOk .wakeUp s⟩

theorem cascade_stopsWithItsCommand (first : Instr) (s : State) :
    stopsWithItsCommand first s (cascade (hostStart (exec first s))) := by
  refine ⟨fun f hf => ?_, fun s1 ⟨h1, o1⟩ => ⟨fun f hf => ?_, fun s2 ⟨h2, o2⟩ => ⟨fun f hf => ?_,
    fun s3 ⟨h3, o3⟩ => ⟨fun f hf => ?_, fun s4 ⟨h4, o4⟩ f hf => ?_⟩⟩⟩⟩
  · simp only [cascade, hostStart_fault hf, ifOk_fault]
  · simp only [cascade, hostStart_next h1, ifOk_issue_fault o1 hf, ifOk_fault]
  · simp only [cascade, hostStart_next h1, ifOk_ok o1 h2 o2, ifOk_select_fault o2 hf, ifOk_fault]
  · simp only [cascade, hostStart_next h1, ifOk_ok o1 h2 o2, ifOk_select o2 h3, ifOk_issue_fault o3 hf, ifOk_fault]
  · simp only [cascade, hostStart_next h1, ifOk_ok o1 h2 o2, ifOk_select o2 h3, ifOk_ok o3 h4 o4,
      ifOk_select_fault o4 hf]

/-- Settles O60: a fault of the command at hand is the sequence's. -/
theorem hostSequencesStopWithTheirCommand : Obligations.HostSequencesStopWithTheirCommand :=
  fun s => ⟨cascade_stopsWithItsCommand .request s, cascade_stopsWithItsCommand .wakeUp s⟩

/-! ### A tag that answers -/

/-- The command i ends Ok in t after one exchange e, with the bytes given as RESULT and SEL_STATE sel; the other session
registers and the parameters stay, and the answers left are rest. -/
structure Selects (i : Instr) (s t : State) (sel : SelState) (e : Event) (bytes : List Byte) (rest : List Answer) :
    Prop where
  ends : exec i s = .next t
  outcome : t.outcome = some .ok
  initFlag : t.initFlag = s.initFlag
  dtype : t.dtype = s.dtype
  endPage : t.endPage = s.endPage
  selState : t.selState = sel
  result : t.resultBytes = bytes
  answers : t.exchangeAnswers = rest
  trace : t.trace = s.trace ++ [e]
  params : t.params = s.params

section Commands

variable {s : State} {id : Quad} {rest : List Answer}

theorem anticollCl1_selects (hi : s.initFlag = true) (h : s.replies (quadBytes id ++ [bcc id]) rest) :
    ∃ t, Selects .anticollCl1 s t s.selState
      (.exchange [s.params.wireOp.anticollCl1First, s.params.wireOp.anticollCl1Second] 5) (quadBytes id) rest := by
  refine ⟨_, gated_ok hi (anticollision_good _ _ id h), ?_, ?_, ?_, ?_, ?_, State.resultBytes_setResult _ (by simp), ?_,
    ?_, ?_⟩
  all_goals simp

theorem anticollCl2_selects (hi : s.initFlag = true) (hs : s.selState = .cl1Done)
    (h : s.replies (quadBytes id ++ [bcc id]) rest) :
    ∃ t, Selects .anticollCl2 s t .cl1Done
      (.exchange [s.params.wireOp.anticollCl2First, s.params.wireOp.anticollCl2Second] 5) (quadBytes id) rest := by
  refine ⟨_, gated_ok hi ((Run.andThen_of_ok (checkCascade_ok _ (.inr hs))).trans (anticollision_good _ _ id h)),
    ?_, ?_, ?_, ?_, ?_, State.resultBytes_setResult _ (by simp), ?_, ?_, ?_⟩
  all_goals simp [hs]

theorem selectCl1_selects (hi : s.initFlag = true) (h : s.replies [0x04#8] rest) :
    ∃ t, Selects (.selectCl1 id) s t .cl1Done
      (.exchange (frameWithCrc (selectPayload s.params.wireOp.selectCl1First s.params.wireOp.selectCl1Second id)) 1)
      [0x04#8] rest := by
  refine ⟨_, gated_ok hi (selectLevel_good _ _ id _ _ h), ?_, ?_, ?_, ?_, ?_, State.resultBytes_setResult _ (by simp),
    ?_, ?_, ?_⟩
  all_goals simp

theorem selectCl2_selects (hi : s.initFlag = true) (hs : s.selState = .cl1Done) (h : s.replies [0x00#8] rest) :
    ∃ t, Selects (.selectCl2 id) s t .cl2Done
      (.exchange (frameWithCrc (selectPayload s.params.wireOp.selectCl2First s.params.wireOp.selectCl2Second id)) 1)
      [0x00#8] rest := by
  refine ⟨_, gated_ok hi ((Run.andThen_of_ok (checkCascade_ok _ (.inr hs))).trans (selectLevel_good _ _ id _ _ h)),
    ?_, ?_, ?_, ?_, ?_, State.resultBytes_setResult _ (by simp), ?_, ?_, ?_⟩
  all_goals simp

end Commands

/-- Both cascade levels, each SELECT with the id the anti-collision before it left in RESULT (43_selection.md R203 to
R206). -/
theorem cascade_selects {s : State} {id1 id2 : Quad} {rest : List Answer} (hi : s.initFlag = true)
    (ho : s.outcome = some .ok) (hmax : 5 ≤ s.params.rxLenMax.toNat)
    (ha : s.exchangeAnswers = .returns 0 (quadBytes id1 ++ [bcc id1]) :: .returns 0 [0x04#8] ::
      .returns 0 (quadBytes id2 ++ [bcc id2]) :: .returns 0 [0x00#8] :: rest) :
    ∃ t, cascade (.next (s, [])) = .next (t, quadBytes id1 ++ quadBytes id2) ∧ t.outcome = some .ok ∧
      t.dtype = s.dtype ∧ t.selState = .cl2Done ∧ t.endPage = s.endPage ∧ t.initFlag = true ∧
      t.resultBytes = [0x00#8] ∧ t.exchangeAnswers = rest ∧ t.trace = s.trace ++ cascadeEvents s.params id1 id2 := by
  obtain ⟨s1, h1⟩ := anticollCl1_selects hi ⟨ha, by simpa using hmax⟩
  have i1 := h1.initFlag.trans hi
  have m1 : 5 ≤ s1.params.rxLenMax.toNat := h1.params ▸ hmax
  obtain ⟨s2, h2⟩ := selectCl1_selects (id := id1) i1 ⟨h1.answers, by simp; omega⟩
  have i2 := h2.initFlag.trans i1
  have m2 : 5 ≤ s2.params.rxLenMax.toNat := h2.params ▸ m1
  obtain ⟨s3, h3⟩ := anticollCl2_selects i2 h2.selState ⟨h2.answers, by simpa using m2⟩
  have i3 := h3.initFlag.trans i2
  have m3 : 5 ≤ s3.params.rxLenMax.toNat := h3.params ▸ m2
  obtain ⟨s4, h4⟩ := selectCl2_selects (id := id2) i3 h3.selState ⟨h3.answers, by simp; omega⟩
  have q1 := resultQuad_eq h1.result
  have q3 := resultQuad_eq h3.result
  refine ⟨s4, ?_, h4.outcome, ?_, h4.selState, ?_, h4.initFlag.trans i3, h4.result, h4.answers, ?_⟩
  · have e2 := h2.ends
    have e4 := h4.ends
    rw [← q1] at e2
    rw [← q3] at e4
    simp only [cascade, ifOk_ok ho h1.ends h1.outcome, ifOk_select h1.outcome e2,
      ifOk_ok h2.outcome h3.ends h3.outcome, ifOk_select h3.outcome e4, List.nil_append, q1, q3]
  · rw [h4.dtype, h3.dtype, h2.dtype, h1.dtype]
  · rw [h4.endPage, h3.endPage, h2.endPage, h1.endPage]
  · rw [h4.trace, h3.trace, h2.trace, h1.trace, h3.params, h2.params, h1.params]
    simp [cascadeEvents, selectPayload]

/-- A sequence whose first command found an Ultralight tag selects it (43_selection.md R206). -/
theorem hostSequence_selects {s s0 : State} {first : Instr} {id1 id2 : Quad} {rest : List Answer} {events : List Event}
    (h : exec first s = .next s0) (ho : s0.outcome = some .ok) (hi : s0.initFlag = true) (hd : s0.dtype = .ultralight)
    (he : s0.endPage = s.endPage) (hp : s0.params = s.params) (ht : s0.trace = s.trace ++ events)
    (hmax : 5 ≤ s.params.rxLenMax.toNat)
    (ha : s0.exchangeAnswers = .returns 0 (quadBytes id1 ++ [bcc id1]) :: .returns 0 [0x04#8] ::
      .returns 0 (quadBytes id2 ++ [bcc id2]) :: .returns 0 [0x00#8] :: rest) :
    selectsTag (cascade (hostStart (exec first s))) s id1 id2 rest (events ++ cascadeEvents s.params id1 id2) := by
  obtain ⟨t, hrun, hout, hdtype, hsel, hend, hflag, hresult, hanswers, htrace⟩ := cascade_selects hi ho (hp ▸ hmax) ha
  refine ⟨t, ?_, hout, hdtype.trans hd, hsel, hend.trans he, hflag, hresult, hanswers, ?_⟩
  · rw [hostStart_next h, hrun]
  · rw [htrace, ht, hp, List.append_assoc]

/-- Settles O55: the first command finds the tag, and the cascade gathers both ids. -/
theorem selectCardGathersTheIdentifier : Obligations.SelectCardGathersTheIdentifier := by
  intro s id1 id2 rest hi hmax ha
  have hreply : s.replies [0x44#8, 0x00#8] s.exchangeAnswers.tail := by
    refine ⟨by rw [ha, List.tail_cons], ?_⟩
    simp
    omega
  obtain ⟨hrequest, hwake⟩ := requestAndWakeUpComplete s _ hi hreply
  have htail := congrArg List.tail ha
  exact ⟨hostSequence_selects (events := [_]) hrequest rfl hi rfl rfl rfl rfl hmax htail,
    hostSequence_selects (events := [_, _]) hwake rfl hi rfl rfl rfl (List.append_assoc _ _ _) hmax htail⟩

end Sys2Proof.Machine
end
